-- ==== Sys2Proof/Word.lean ====
section
/-! DEFINITION. The machine's bit widths: the `uN` of rule R9 for the widths the spec uses, and
nothing else (no arithmetic of the model stands here). -/

namespace Sys2Proof

/-- `u8` (rule R9): a data byte, an 8-bit register address, a stored device address. -/
abbrev U8 := BitVec 8

/-- `u16` (rule R9): the spec's "word", the content of a 16-bit device register. -/
abbrev U16 := BitVec 16

/-- `u32` (rule R9): a command word or an operand (rule R75). -/
abbrev U32 := BitVec 32

/-- `u64` (rule R9): the `val` of a response (rule R78). -/
abbrev U64 := BitVec 64

end Sys2Proof
end

