-- ==== Sys2Proof/Config.lean ====
section
/-! DEFINITION. What an implementation fixes (the parameters of rule R7) and the values the
environment chooses (rule R15). The constants `Config.chip` and `Config.freeAnswer` have no body:
nothing in Lean can evaluate them, so a claim about them holds for every value. -/

namespace Sys2Proof

/-- An opaque bus token (rules R7 and R33): only its identity matters. -/
structure BusRef where
  id : Nat
  deriving DecidableEq, Repr, Inhabited

/-- The encoder's rotation direction (rule R36). -/
inductive Dir where
  | cw
  | ccw
  deriving DecidableEq, Repr, Inhabited

/-- Which 8-bit half of the encoder configuration holds a field (rule R158). -/
inductive ConfHalf where
  | hi
  | lo
  deriving DecidableEq, Repr, Inhabited

/-- The descriptor parameters of an encoder configuration field (rule R158). -/
structure EncFieldParam where
  half : ConfHalf
  mask : U8
  deriving DecidableEq, Repr, Inhabited

/-- The implementation parameters of rule R7 that the source leaves OPEN. The fixed ones (`NDEV` = 2,
`ADDR_SHIFT` = 1, the masks 0x03 and 0x0C of power mode and hysteresis) are constants of the model.
Which parameter values are admitted is `Params.admitted` in `WellFormed.lean`. -/
structure Params where
  /-- `BUS[ENC]`. -/
  busEnc : BusRef
  /-- `BUS[MON]`. -/
  busMon : BusRef
  /-- `ADDR7[ENC]`. -/
  addr7Enc : BitVec 7
  /-- `ADDR7[MON]`. -/
  addr7Mon : BitVec 7
  /-- `TIMEOUT[ENC]`, in time units. -/
  timeoutEnc : U32
  /-- `TIMEOUT[MON]`, in time units. -/
  timeoutMon : U32
  /-- `TICK`, the length of one time unit; no rule depends on it. -/
  tick : Nat
  /-- `PROBE_TRIALS`. -/
  probeTrials : Nat
  /-- `DIR`. -/
  dir : Dir
  /-- `ENC_REG_ZPOS`. -/
  encZpos : U8
  /-- `ENC_REG_MPOS`. -/
  encMpos : U8
  /-- `ENC_REG_MANG`. -/
  encMang : U8
  /-- `ENC_REG_CONF_HI`. -/
  encConfHi : U8
  /-- `ENC_REG_CONF_LO`. -/
  encConfLo : U8
  /-- `ENC_REG_STATUS`. -/
  encStatus : U8
  /-- `ENC_REG_RAW_ANGLE`. -/
  encRawAngle : U8
  /-- `ENC_REG_ANGLE`. -/
  encAngle : U8
  /-- `ENC_ST_MD`, magnet detected. -/
  encStMd : U8
  /-- `ENC_ST_ML`, magnet weak. -/
  encStMl : U8
  /-- `ENC_ST_MH`, magnet strong. -/
  encStMh : U8
  /-- `ENC_F_OUTS_REG`, `ENC_F_OUTS_MASK`. -/
  encOuts : EncFieldParam
  /-- `ENC_F_PWMF_REG`, `ENC_F_PWMF_MASK`. -/
  encPwmf : EncFieldParam
  /-- `ENC_F_SF_REG`, `ENC_F_SF_MASK`. -/
  encSf : EncFieldParam
  /-- `ENC_F_FTH_REG`, `ENC_F_FTH_MASK`. -/
  encFth : EncFieldParam
  /-- `ENC_F_WD_REG`, `ENC_F_WD_MASK`. -/
  encWd : EncFieldParam
  /-- `MON_REG_CONFIG`. -/
  monConfig : U8
  /-- `MON_REG_SHUNT`. -/
  monShunt : U8
  /-- `MON_REG_BUS`. -/
  monBus : U8
  /-- `MON_REG_POWER`. -/
  monPower : U8
  /-- `MON_REG_CURRENT`. -/
  monCurrent : U8
  /-- `MON_REG_CALIB`. -/
  monCalib : U8
  /-- `MON_BUS_OVF`, the overflow flag of the bus-voltage register. -/
  monBusOvf : U16
  /-- `MON_CFG_RST`, the reset bit of the monitor configuration. -/
  monCfgRst : U16
  /-- `MON_F_VR_MASK`. -/
  monVr : U16
  /-- `MON_F_PGA_MASK`. -/
  monPga : U16
  /-- `MON_F_BADC_MASK`. -/
  monBadc : U16
  /-- `MON_F_SADC_MASK`. -/
  monSadc : U16
  /-- `MON_F_MODE_MASK`. -/
  monMode : U16
  deriving DecidableEq, Repr, Inhabited

/-- Everything the environment behind the bus port decides about ONE transaction (rules R15, R56,
R102 to R104). A run takes one answer per transaction, whatever its kind. -/
structure Answer where
  /-- How many time units pass before the response is present on the bus port (rule R102). -/
  after : Nat
  /-- The response's `ok` (rule R56). -/
  ok : Bool
  /-- The first data byte a successful read receives. -/
  data0 : U8
  /-- The second data byte a successful two-byte read receives. -/
  data1 : U8
  /-- `draw(8)`: what a failed read returns as its first byte (rule R104). -/
  draw0 : U8
  /-- `draw(8)`: what a failed two-byte read returns as its second byte (rule R104). -/
  draw1 : U8
  /-- What a failed read leaves in `RXB[0]` (rule R28: unspecified). -/
  stale0 : U8
  /-- What a failed read leaves in `RXB[1]` (rule R28: unspecified). -/
  stale1 : U8
  deriving DecidableEq, Repr, Inhabited

/-- The parameter values of the chip that `State.reset` is the reset of (rule R7: "OPEN"). No body:
no value of the model's choosing (log entry 1). -/
opaque Config.chip : Params

/-- The environment's answers to the transactions that no listed answer covers (rule R15: a free value,
"never a constant, never zero"), numbered by `State.drawn` (log entry 2). -/
opaque Config.freeAnswer : Nat → Answer

end Sys2Proof
end

