-- ==== Sys2Proof/Syntax.lean ====
section
/-! DEFINITION. Commands as the host writes them (the triple of rule R75) and as the sequencer carries
them out (`Instr`, one constructor per row of the opcode map, rule R83), and the pseudo-instructions
of rule R89. Operands have exactly the width of their signature (rule R82), so that every term of
`Instr` is a legal command; what can be illegal is a command triple (`Command.wf`). -/

namespace Sys2Proof

/-- The two device handles (rules R7 and R20): `ENC` = 0, `MON` = 1. -/
inductive Handle where
  | enc
  | mon
  deriving DecidableEq, Repr, Inhabited

/-- The `unit` operand of `EGREAL` (rule R143): 0 = degrees, 1 = radians. -/
inductive AngleUnit where
  | deg
  | rad
  deriving DecidableEq, Repr, Inhabited

/-- A command triple (rule R75), 96 bits. -/
structure Command where
  cw : U32
  opa : U32
  opb : U32
  deriving DecidableEq, Repr, Inhabited

/-- The 33 commands of the opcode map (rule R83). -/
inductive Instr where
  /-- `RDB h, addr` (R110). -/
  | rdb (h : Handle) (addr : U8)
  /-- `WRB h, addr, data` (R111). -/
  | wrb (h : Handle) (addr : U8) (data : U8)
  /-- `RDW h, addr` (R112). -/
  | rdw (h : Handle) (addr : U8)
  /-- `WRW h, addr, data` (R113). -/
  | wrw (h : Handle) (addr : U8) (data : U16)
  /-- `PROBE h` (R114). -/
  | probe (h : Handle)
  /-- `MSKB value, mask [, inv]` (R121). -/
  | mskb (value mask : U8) (invert : Bool)
  /-- `MSKW value, mask [, inv]` (R122). -/
  | mskw (value mask : U16) (invert : Bool)
  /-- `CMPW b0, b1` (R124). -/
  | cmpw (byte0 byte1 : U8)
  /-- `SPLW w` (R125). -/
  | splw (word : U16)
  /-- `FGETB h, addr, mask` (R127). -/
  | fgetb (h : Handle) (addr : U8) (mask : U8)
  /-- `FSETB h, addr, mask, bits` (R128). -/
  | fsetb (h : Handle) (addr : U8) (mask bits : U8)
  /-- `FGETW h, addr, mask` (R129). -/
  | fgetw (h : Handle) (addr : U8) (mask : U16)
  /-- `FSETW h, addr, mask, bits` (R130). -/
  | fsetw (h : Handle) (addr : U8) (mask bits : U16)
  /-- `SETCFG h, value` (R131). -/
  | setcfg (h : Handle) (value : U16)
  /-- `EGRAW` (R141). -/
  | egraw
  /-- `EGANG` (R142). -/
  | egang
  /-- `EGREAL unit` (R143). -/
  | egreal (unit : AngleUnit)
  /-- `ESZPOS value` (R145). -/
  | eszpos (value : U16)
  /-- `ESMPOS value` (R146). -/
  | esmpos (value : U16)
  /-- `ESMANG value` (R147). -/
  | esmang (value : U16)
  /-- `EMDET` (R149). -/
  | emdet
  /-- `EMSTR` (R150). -/
  | emstr
  /-- `EMWEAK` (R151). -/
  | emweak
  /-- `MGRBUS` (R170). -/
  | mgrbus
  /-- `MGRSHV` (R171). -/
  | mgrshv
  /-- `MGRCUR` (R172). -/
  | mgrcur
  /-- `MGRPWR` (R173). -/
  | mgrpwr
  /-- `MGBUSV` (R174). -/
  | mgbusv
  /-- `MGSHV` (R175). -/
  | mgshv
  /-- `MGCUR` (R179). -/
  | mgcur
  /-- `MGPWR` (R180). -/
  | mgpwr
  /-- `MCAL imax_ua, rsh_uohm` (R181). -/
  | mcal (imaxUa rshUohm : U32)
  /-- `MRST` (R182). -/
  | mrst
  deriving DecidableEq, Repr, Inhabited

/-- The seven sub-fields of the encoder configuration (rule R158). -/
inductive EncField where
  | pm
  | hyst
  | outs
  | pwmf
  | sf
  | fth
  | wd
  deriving DecidableEq, Repr, Inhabited

/-- The five sub-fields of the monitor configuration (rule R190). -/
inductive MonField where
  | vr
  | pga
  | badc
  | sadc
  | mode
  deriving DecidableEq, Repr, Inhabited

/-- The 24 pseudo-instructions (rule R89): a setter and a getter for each of the twelve fields; `v` is
an in-place value. -/
inductive Pseudo where
  | encSet (f : EncField) (v : U8)
  | encGet (f : EncField)
  | monSet (f : MonField) (v : U16)
  | monGet (f : MonField)
  deriving DecidableEq, Repr, Inhabited

end Sys2Proof
end

