-- ==== Sys2Proof/WellFormed.lean ====
section
/-! DEFINITION. Which command triples are legal (rules R81 to R85) and which parameter values are
admitted (rules R7, R158, R190, and U9, U19 of `93_implementation_defined.md`). Both checks are
Booleans made of named parts; the decoder does not call them. -/

namespace Sys2Proof

/-- The four command-word formats of rule R81. -/
inductive Format where
  | z
  | h
  | ha
  | f
  deriving DecidableEq, Repr

/-- One row of the opcode map (rule R83) as the legality check needs it: opcode, format, and how many
low bits of `opa` and `opb` the signatures use (rule R82). -/
structure LegalRow where
  op : Nat
  format : Format
  opaBits : Nat
  opbBits : Nat
  deriving DecidableEq, Repr

/-- The opcode map of rule R83, row by row. -/
def legalRows : List LegalRow :=
  [ ⟨0x01, .ha, 0, 0⟩, ⟨0x02, .ha, 8, 0⟩, ⟨0x03, .ha, 0, 0⟩, ⟨0x04, .ha, 16, 0⟩, ⟨0x05, .h, 0, 0⟩,
    ⟨0x10, .f, 8, 8⟩, ⟨0x11, .f, 16, 16⟩, ⟨0x12, .z, 8, 8⟩, ⟨0x13, .z, 16, 0⟩ ] ++
  [ ⟨0x20, .ha, 8, 0⟩, ⟨0x21, .ha, 8, 8⟩, ⟨0x22, .ha, 16, 0⟩, ⟨0x23, .ha, 16, 16⟩, ⟨0x24, .h, 16, 0⟩,
    ⟨0x30, .z, 0, 0⟩, ⟨0x31, .z, 0, 0⟩, ⟨0x32, .f, 0, 0⟩, ⟨0x33, .z, 16, 0⟩, ⟨0x34, .z, 16, 0⟩,
    ⟨0x35, .z, 16, 0⟩, ⟨0x36, .z, 0, 0⟩, ⟨0x37, .z, 0, 0⟩, ⟨0x38, .z, 0, 0⟩ ] ++
  [ ⟨0x40, .z, 0, 0⟩, ⟨0x41, .z, 0, 0⟩, ⟨0x42, .z, 0, 0⟩, ⟨0x43, .z, 0, 0⟩, ⟨0x44, .z, 0, 0⟩,
    ⟨0x45, .z, 0, 0⟩, ⟨0x46, .z, 0, 0⟩, ⟨0x47, .z, 0, 0⟩, ⟨0x48, .z, 32, 32⟩, ⟨0x49, .z, 0, 0⟩ ]

/-- The row of a command's opcode, if the opcode is in the map (rule R83). -/
def Command.row? (c : Command) : Option LegalRow :=
  legalRows.find? fun r => r.op == (c.cw.extractLsb' 0 8).toNat

/-- Every bit of `cw` that the format leaves unused is zero (rules R77 and R85): bits 15:10 and 31:24
always, and `h`, `f`, `addr` where the format has none. -/
def Format.reservedZero (fmt : Format) (cw : U32) : Bool :=
  cw.extractLsb' 10 6 == 0 && cw.extractLsb' 24 8 == 0 &&
  (fmt == .h || fmt == .ha || cw.extractLsb' 8 1 == 0) &&
  (fmt == .f || cw.extractLsb' 9 1 == 0) &&
  (fmt == .ha || cw.extractLsb' 16 8 == 0)

/-- An operand fits its signature (rule R82). -/
def operandFits (bits : Nat) (v : U32) : Bool := decide (v.toNat < 2 ^ bits)

/-- A command triple is legal (rule R85 read as its negation). -/
def Command.wf (c : Command) : Bool :=
  match c.row? with
  | none => false
  | some r => r.format.reservedZero c.cw && operandFits r.opaBits c.opa && operandFits r.opbBits c.opb

/-- Exactly one bit set. -/
def oneBit {w : Nat} (v : BitVec w) : Bool := v != 0 && (v &&& (v - 1)) == 0

/-- The values of a list are pairwise different. -/
def pairwiseDifferent {w : Nat} (l : List (BitVec w)) : Bool := decide (l.Pairwise (· ≠ ·))

/-- No two values of a list have a bit in common. -/
def pairwiseDisjoint {w : Nat} (l : List (BitVec w)) : Bool := decide (l.Pairwise fun a b => a &&& b = 0)

/-- `TIMEOUT[h]` ≥ 1 (rule R35, U9). -/
def Params.timeoutsPositive (p : Params) : Bool := p.timeoutEnc != 0 && p.timeoutMon != 0

/-- `PROBE_TRIALS` ≥ 1 (rule R7). -/
def Params.trialsPositive (p : Params) : Bool := decide (1 ≤ p.probeTrials)

/-- The eight encoder register addresses, in the order of rule R7. -/
def Params.encAddrs (p : Params) : List U8 :=
  [p.encZpos, p.encMpos, p.encMang, p.encConfHi, p.encConfLo, p.encStatus, p.encRawAngle, p.encAngle]

/-- The six monitor register addresses, in the order of rule R7. -/
def Params.monAddrs (p : Params) : List U8 :=
  [p.monConfig, p.monShunt, p.monBus, p.monPower, p.monCurrent, p.monCalib]

/-- Every encoder register address is in 0x00..0x1C (rules R7 and R52). -/
def Params.encAddrsInRange (p : Params) : Bool := p.encAddrs.all fun a => decide (a.toNat ≤ 0x1C)

/-- Every monitor register address is in 0x00..0x05 (rules R7 and R52). -/
def Params.monAddrsInRange (p : Params) : Bool := p.monAddrs.all fun a => decide (a.toNat ≤ 0x05)

/-- The monitor register addresses are pairwise different (rule R7). -/
def Params.monAddrsDifferent (p : Params) : Bool := pairwiseDifferent p.monAddrs

/-- The three status values have one bit each and are pairwise different (rule R7). -/
def Params.statusFlagsOk (p : Params) : Bool :=
  [p.encStMd, p.encStMl, p.encStMh].all oneBit && pairwiseDifferent [p.encStMd, p.encStMl, p.encStMh]

/-- The address parameter of a half of the encoder configuration (rule R158). -/
def Params.halfAddr (p : Params) : ConfHalf → U8
  | .hi => p.encConfHi
  | .lo => p.encConfLo

/-- The seven encoder field descriptors of rule R158, each a register address and a mask (rules R20 and R133): power mode
and hysteresis lie in the low half with masks 0x03 and 0x0C. -/
def Params.encDescriptors (p : Params) : List (U8 × U8) :=
  [(p.encConfLo, 0x03), (p.encConfLo, 0x0C)] ++
    [p.encOuts, p.encPwmf, p.encSf, p.encFth, p.encWd].map fun f => (p.halfAddr f.half, f.mask)

/-- Encoder field masks are non-zero, and those of fields at one register address are disjoint (rules R133 and R158, U19);
the two halves may have one address (rule R7). -/
def Params.encMasksOk (p : Params) : Bool :=
  p.encDescriptors.all (·.2 != 0) &&
    decide (p.encDescriptors.Pairwise fun a b => a.1 = b.1 → a.2 &&& b.2 = 0)

/-- `MON_BUS_OVF` is one bit within 0x0007 (rule R7). -/
def Params.busOvfOk (p : Params) : Bool := oneBit p.monBusOvf && (p.monBusOvf &&& 0x0007) == p.monBusOvf

/-- The monitor field masks, in the order of rule R190. -/
def Params.monMasks (p : Params) : List U16 := [p.monVr, p.monPga, p.monBadc, p.monSadc, p.monMode]

/-- `MON_CFG_RST` is one bit; the field masks are non-zero, and they and `MON_CFG_RST` are pairwise
disjoint (rules R7, R133 and R190). -/
def Params.monMasksOk (p : Params) : Bool :=
  oneBit p.monCfgRst && p.monMasks.all (· != 0) && pairwiseDisjoint (p.monCfgRst :: p.monMasks)

/-- The parameter values are admitted: they meet every constraint of rule R7 (U9 and U19: a
configuration that does not is outside the spec, and a claim that needs one says so). -/
def Params.admitted (p : Params) : Bool :=
  p.timeoutsPositive && p.trialsPositive && p.encAddrsInRange && p.monAddrsInRange &&
    p.monAddrsDifferent && p.statusFlagsOk && p.encMasksOk && p.busOvfOk && p.monMasksOk

end Sys2Proof
end

