-- ==== Sys2Proof/Decode.lean ====
section
/-! DEFINITION. The decoder (rules R81 to R85), total on every command triple and rejecting by name, and
after it the encoder, written from the same tables (rules R77 and R83). -/

namespace Sys2Proof

/-- Why a command triple is no command, in the order of rule R84: the first check that fails. All four are
answered with `ILLEGAL` (rule R85). -/
inductive DecodeError where
  /-- `cw[7:0]` is not in the opcode map (R84 step 1). -/
  | unknownOpcode
  /-- A reserved bit of `cw` is set (R84 step 2). -/
  | reservedCw
  /-- A reserved bit of `opa` is set (R84 step 3). -/
  | reservedOpa
  /-- A reserved bit of `opb` is set (R84 step 3). -/
  | reservedOpb
  deriving DecidableEq, Repr

/-- The operand signatures `-`, `8`, `16`, `32` of rule R82. -/
inductive Signature where
  | unused
  | s8
  | s16
  | s32
  deriving DecidableEq, Repr

/-- How many low bits a signature uses (rule R82). -/
def Signature.width : Signature → Nat
  | .unused => 0
  | .s8 => 8
  | .s16 => 16
  | .s32 => 32

/-- The reserved bits of an operand are zero (rule R82). -/
def Signature.fits (sig : Signature) (v : U32) : Bool := v >>> sig.width == 0

/-- The `mask` column of rule R81. -/
def Format.mask : Format → U32
  | .z => 0xFFFFFFFF
  | .h => 0xFFFFFEFF
  | .ha => 0xFF00FEFF
  | .f => 0xFFFFFDFF

/-- `cw[7:0]`, the opcode (rule R77). -/
def Command.op (c : Command) : U8 := c.cw.extractLsb' 0 8

/-- `cw[8]`, the handle select: 0 = ENC, 1 = MON (rule R77). -/
def Command.handle (c : Command) : Handle := if c.cw.getLsbD 8 then .mon else .enc

/-- `cw[9]`, the flag (rule R77). -/
def Command.flag (c : Command) : Bool := c.cw.getLsbD 9

/-- `cw[23:16]`, the register address (rule R77). -/
def Command.addr (c : Command) : U8 := c.cw.extractLsb' 16 8

/-- `opa[7:0]`. -/
def Command.opa8 (c : Command) : U8 := c.opa.extractLsb' 0 8

/-- `opa[15:0]`. -/
def Command.opa16 (c : Command) : U16 := c.opa.extractLsb' 0 16

/-- `opb[7:0]`. -/
def Command.opb8 (c : Command) : U8 := c.opb.extractLsb' 0 8

/-- `opb[15:0]`. -/
def Command.opb16 (c : Command) : U16 := c.opb.extractLsb' 0 16

/-- The `f` flag read as the unit of `EGREAL` (rule R77). -/
def AngleUnit.ofFlag (f : Bool) : AngleUnit := if f then .rad else .deg

/-- One row of the opcode map (rule R83), with how the command is read from its fields. -/
structure Row where
  op : U8
  format : Format
  opa : Signature
  opb : Signature
  build : Command → Instr

/-- Rows 0x01 to 0x24 of rule R83: transport, codec, field access. -/
def rowsTransportCodecField : List Row :=
  [ ⟨0x01, .ha, .unused, .unused, fun c => .rdb c.handle c.addr⟩,
    ⟨0x02, .ha, .s8, .unused, fun c => .wrb c.handle c.addr c.opa8⟩,
    ⟨0x03, .ha, .unused, .unused, fun c => .rdw c.handle c.addr⟩,
    ⟨0x04, .ha, .s16, .unused, fun c => .wrw c.handle c.addr c.opa16⟩,
    ⟨0x05, .h, .unused, .unused, fun c => .probe c.handle⟩,
    ⟨0x10, .f, .s8, .s8, fun c => .mskb c.opa8 c.opb8 c.flag⟩,
    ⟨0x11, .f, .s16, .s16, fun c => .mskw c.opa16 c.opb16 c.flag⟩,
    ⟨0x12, .z, .s8, .s8, fun c => .cmpw c.opa8 c.opb8⟩,
    ⟨0x13, .z, .s16, .unused, fun c => .splw c.opa16⟩,
    ⟨0x20, .ha, .s8, .unused, fun c => .fgetb c.handle c.addr c.opa8⟩,
    ⟨0x21, .ha, .s8, .s8, fun c => .fsetb c.handle c.addr c.opa8 c.opb8⟩,
    ⟨0x22, .ha, .s16, .unused, fun c => .fgetw c.handle c.addr c.opa16⟩,
    ⟨0x23, .ha, .s16, .s16, fun c => .fsetw c.handle c.addr c.opa16 c.opb16⟩,
    ⟨0x24, .h, .s16, .unused, fun c => .setcfg c.handle c.opa16⟩ ]

/-- Rows 0x30 to 0x38 of rule R83: the encoder commands. -/
def rowsEncoder : List Row :=
  [ ⟨0x30, .z, .unused, .unused, fun _ => .egraw⟩,
    ⟨0x31, .z, .unused, .unused, fun _ => .egang⟩,
    ⟨0x32, .f, .unused, .unused, fun c => .egreal (AngleUnit.ofFlag c.flag)⟩,
    ⟨0x33, .z, .s16, .unused, fun c => .eszpos c.opa16⟩,
    ⟨0x34, .z, .s16, .unused, fun c => .esmpos c.opa16⟩,
    ⟨0x35, .z, .s16, .unused, fun c => .esmang c.opa16⟩,
    ⟨0x36, .z, .unused, .unused, fun _ => .emdet⟩,
    ⟨0x37, .z, .unused, .unused, fun _ => .emstr⟩,
    ⟨0x38, .z, .unused, .unused, fun _ => .emweak⟩ ]

/-- Rows 0x40 to 0x49 of rule R83: the monitor commands. -/
def rowsMonitor : List Row :=
  [ ⟨0x40, .z, .unused, .unused, fun _ => .mgrbus⟩,
    ⟨0x41, .z, .unused, .unused, fun _ => .mgrshv⟩,
    ⟨0x42, .z, .unused, .unused, fun _ => .mgrcur⟩,
    ⟨0x43, .z, .unused, .unused, fun _ => .mgrpwr⟩,
    ⟨0x44, .z, .unused, .unused, fun _ => .mgbusv⟩,
    ⟨0x45, .z, .unused, .unused, fun _ => .mgshv⟩,
    ⟨0x46, .z, .unused, .unused, fun _ => .mgcur⟩,
    ⟨0x47, .z, .unused, .unused, fun _ => .mgpwr⟩,
    ⟨0x48, .z, .s32, .s32, fun c => .mcal c.opa c.opb⟩,
    ⟨0x49, .z, .unused, .unused, fun _ => .mrst⟩ ]

/-- The opcode map of rule R83. -/
def opcodeMap : List Row := rowsTransportCodecField ++ rowsEncoder ++ rowsMonitor

/-- The decoder (rule R84): the opcode, then the reserved bits of `cw`, of `opa`, of `opb`. -/
def decode (c : Command) : Except DecodeError Instr :=
  match opcodeMap.find? fun r => r.op == c.op with
  | none => .error .unknownOpcode
  | some r =>
    if (c.cw &&& r.format.mask) ≠ r.op.setWidth 32 then .error .reservedCw
    else if r.opa.fits c.opa = false then .error .reservedOpa
    else if r.opb.fits c.opb = false then .error .reservedOpb
    else .ok (r.build c)

/-- The command triple held by a 96-bit number: `cw` in bits 31:0, `opa` in 63:32, `opb` in 95:64. -/
def Command.ofBits (w : Nat) : Command :=
  { cw := BitVec.ofNat 32 w, opa := BitVec.ofNat 32 (w >>> 32), opb := BitVec.ofNat 32 (w >>> 64) }

/-- What the decoder reads from an instruction whose bits are the low `nbits` bits of `w`, every higher bit
of the 96 being zero; `none` where it refuses. -/
def decodeTableWord (nbits w : Nat) : Option Instr :=
  (decode (Command.ofBits (w % 2 ^ nbits))).toOption

/-! ## The encoder -/

/-- The handle-select bit (rule R77). -/
def Handle.bit : Handle → Bool
  | .enc => false
  | .mon => true

/-- The `unit` bit (rule R77). -/
def AngleUnit.bit : AngleUnit → Bool
  | .deg => false
  | .rad => true

/-- The command word of rule R77: `op | (h << 8) | (f << 9) | (addr << 16)`, every other bit zero. -/
def packCw (op : U8) (h f : Bool) (addr : U8) : U32 :=
  op.setWidth 32 ||| ((BitVec.ofBool h).setWidth 32 <<< 8) ||| ((BitVec.ofBool f).setWidth 32 <<< 9) |||
    (addr.setWidth 32 <<< 16)

/-- A command of format Z (rule R81). -/
def encodeZ (op : U8) (opa opb : U32) : Command := ⟨packCw op false false 0, opa, opb⟩

/-- A command of format H (rule R81). -/
def encodeH (op : U8) (h : Handle) (opa opb : U32) : Command := ⟨packCw op h.bit false 0, opa, opb⟩

/-- A command of format HA (rule R81). -/
def encodeHA (op : U8) (h : Handle) (addr : U8) (opa opb : U32) : Command := ⟨packCw op h.bit false addr, opa, opb⟩

/-- A command of format F (rule R81). -/
def encodeF (op : U8) (f : Bool) (opa opb : U32) : Command := ⟨packCw op false f 0, opa, opb⟩

/-- The command triple of an instruction (rule R83). -/
def encode : Instr → Command
  | .rdb h addr => encodeHA 0x01 h addr 0 0
  | .wrb h addr data => encodeHA 0x02 h addr (data.setWidth 32) 0
  | .rdw h addr => encodeHA 0x03 h addr 0 0
  | .wrw h addr data => encodeHA 0x04 h addr (data.setWidth 32) 0
  | .probe h => encodeH 0x05 h 0 0
  | .mskb value mask invert => encodeF 0x10 invert (value.setWidth 32) (mask.setWidth 32)
  | .mskw value mask invert => encodeF 0x11 invert (value.setWidth 32) (mask.setWidth 32)
  | .cmpw b0 b1 => encodeZ 0x12 (b0.setWidth 32) (b1.setWidth 32)
  | .splw w => encodeZ 0x13 (w.setWidth 32) 0
  | .fgetb h addr mask => encodeHA 0x20 h addr (mask.setWidth 32) 0
  | .fsetb h addr mask bits => encodeHA 0x21 h addr (mask.setWidth 32) (bits.setWidth 32)
  | .fgetw h addr mask => encodeHA 0x22 h addr (mask.setWidth 32) 0
  | .fsetw h addr mask bits => encodeHA 0x23 h addr (mask.setWidth 32) (bits.setWidth 32)
  | .setcfg h value => encodeH 0x24 h (value.setWidth 32) 0
  | .egraw => encodeZ 0x30 0 0
  | .egang => encodeZ 0x31 0 0
  | .egreal unit => encodeF 0x32 unit.bit 0 0
  | .eszpos value => encodeZ 0x33 (value.setWidth 32) 0
  | .esmpos value => encodeZ 0x34 (value.setWidth 32) 0
  | .esmang value => encodeZ 0x35 (value.setWidth 32) 0
  | .emdet => encodeZ 0x36 0 0
  | .emstr => encodeZ 0x37 0 0
  | .emweak => encodeZ 0x38 0 0
  | .mgrbus => encodeZ 0x40 0 0
  | .mgrshv => encodeZ 0x41 0 0
  | .mgrcur => encodeZ 0x42 0 0
  | .mgrpwr => encodeZ 0x43 0 0
  | .mgbusv => encodeZ 0x44 0 0
  | .mgshv => encodeZ 0x45 0 0
  | .mgcur => encodeZ 0x46 0 0
  | .mgpwr => encodeZ 0x47 0 0
  | .mcal imaxUa rshUohm => encodeZ 0x48 imaxUa rshUohm
  | .mrst => encodeZ 0x49 0 0

end Sys2Proof
end

