-- ==== Sys2Proof/Machine/State.lean ====
section
/-! DEFINITION. The state of the RTB (`10_state.md`), the two reasons a step can stop, and reset. State is plain
data: the registers of rule R47 and five fields of the model's own (`cfg`, `bus`, `host`, `script`,
`drawn`), each said to be so. -/

namespace Sys2Proof.Machine

/-- The failure codes of a response (rules R78 and R199). -/
inductive Err where
  /-- `NONE` = 0. -/
  | none
  /-- `BUS` = 1, a checked transaction failed (R196). -/
  | bus
  /-- `RANGE` = 2, a position above 0x0FFF (R197). -/
  | range
  /-- `ILLEGAL` = 3, an illegal command triple (R198). -/
  | illegal
  deriving DecidableEq, Repr

/-- The state of the transaction FSM (rule R41): `T_IDLE` = 0, `T_WAIT` = 1. -/
inductive Tst where
  | idle
  | wait
  deriving DecidableEq, Repr

/-- `SEQ` (rule R43): idle, or how many of the command's transactions (at most two) are done. -/
inductive SeqStep where
  | idle
  | done0
  | done1
  | done2
  deriving DecidableEq, Repr

/-- The registers of one device handle (rules R33 to R35). -/
structure HandleRegs where
  /-- `HBUS[h]`. -/
  bus : BusRef
  /-- `HDEV[h]`, the pre-shifted device address. -/
  dev : U8
  /-- `HTMO[h]`, the response timeout in time units. -/
  tmo : U32
  deriving DecidableEq, Repr

/-- The `kind` of a bus request (rule R55): `MEM_READ` = 0, `MEM_WRITE` = 1, `READY_CHECK` = 2. -/
inductive BusKind where
  | memRead
  | memWrite
  | readyCheck
  deriving DecidableEq, Repr

/-- A bus request (rule R55). -/
structure BusRequest where
  kind : BusKind
  bus : BusRef
  dev : U8
  /-- The register address; 0 for `READY_CHECK`. -/
  reg : U8
  /-- Number of data bytes: 0, 1 or 2 (R61). -/
  n : Nat
  /-- The bytes of a `MEM_WRITE` in transmission order; empty otherwise. -/
  wdata : List U8
  /-- `T`, the time allowed. -/
  time : U32
  /-- `PROBE_TRIALS` for `READY_CHECK`; unused (0) otherwise. -/
  trials : Nat
  deriving DecidableEq, Repr

/-- A bus response (rule R56): `rdata` holds the n bytes of a successful `MEM_READ` in reception order and is
empty in every other case. A timeout is the failure `(0, none)` (R102). -/
structure BusResponse where
  ok : Bool
  rdata : List U8
  deriving DecidableEq, Repr

/-- A transaction: one request on the bus port and its outcome (rule R20). -/
structure Transaction where
  req : BusRequest
  rsp : BusResponse
  deriving DecidableEq, Repr

/-- The state of the RTB. -/
structure State where
  /-- `CW` (R26). -/
  cw : U32
  /-- `OPA` (R26). -/
  opa : U32
  /-- `OPB` (R26). -/
  opb : U32
  /-- `ROK` (R27). -/
  rok : Bool
  /-- `RERR` (R27). -/
  rerr : Err
  /-- `RVAL` (R27). -/
  rval : U64
  /-- `TXB[0]` (R28). -/
  txb0 : U8
  /-- `TXB[1]` (R28). -/
  txb1 : U8
  /-- `RXB[0]` (R28). -/
  rxb0 : U8
  /-- `RXB[1]` (R28). -/
  rxb1 : U8
  /-- `BUSY` (R29). -/
  busy : Bool
  /-- `HBUS[ENC]`, `HDEV[ENC]`, `HTMO[ENC]` (R33 to R35). -/
  encReg : HandleRegs
  /-- `HBUS[MON]`, `HDEV[MON]`, `HTMO[MON]` (R33 to R35). -/
  monReg : HandleRegs
  /-- `DIR` (R36). -/
  dir : Dir
  /-- `CALV` (R37). -/
  calv : Bool
  /-- `IMAX_UA` (R38), microamperes. -/
  imaxUa : U32
  /-- `RSH_UOHM` (R38), micro-ohms. -/
  rshUohm : U32
  /-- `CALREG` (R40). -/
  calreg : U16
  /-- `TST` (R41). -/
  tst : Tst
  /-- `TCNT` (R42). -/
  tcnt : Nat
  /-- `SEQ` (R43). -/
  seq : SeqStep
  /-- The parameters of rule R7: the model's own field, written by no step (log entry 1). -/
  cfg : Params
  /-- The transactions made so far, oldest first: the model's own record of the bus port (log entry 8). -/
  bus : List Transaction
  /-- The commands the host is still to present, in order: the model's own field (log entry 7). -/
  host : List Command
  /-- The environment's next answers, one per transaction: the model's own field (log entry 2). -/
  script : List Answer
  /-- How many answers have been taken from `Config.freeAnswer`: the model's own field (log entry 2). -/
  drawn : Nat
  deriving DecidableEq, Repr

/-- Why the machine stops with a fault: never. "No exceptions, no fatal aborts" (rule R195), so the type has
no constructor. -/
inductive Fault where
  deriving DecidableEq, Repr

/-- Why a command has no meaning. -/
inductive Refusal where
  /-- An instruction without a meaning; raised by `exec` alone, and by no arm of it now. Safe. -/
  | notModelled (mnemonic : String)
  /-- `MGCUR` or `MGPWR` with `CALV` = 0: "outside the spec", treatment `refuse` (U6 of
  `93_implementation_defined.md`, R179, R180). Raised by those two. Safe. -/
  | calibrationNotValid
  /-- A calibration outside the domain of `calval` (R167): "outside the spec", treatment `refuse` (U7).
  Raised by `MCAL` on such operands, and by `MGCUR` and `MGPWR` in states no run reaches. Safe. -/
  | calibrationOutsideDomain
  deriving DecidableEq, Repr

/-- `HBUS[h]`, `HDEV[h]`, `HTMO[h]` as reset loads them (rule R220): `HDEV[h] = ADDR7[h] << 1` (R34). -/
def HandleRegs.load (bus : BusRef) (addr7 : BitVec 7) (tmo : U32) : HandleRegs :=
  { bus := bus, dev := addr7 ++ 0#1, tmo := tmo }

/-- The machine right after reset with parameters `p` (rules R47 and R220). The registers R47 calls
unspecified hold the values log entry 4 names (zero). -/
def State.resetWith (p : Params) : State where
  cw := 0
  opa := 0
  opb := 0
  rok := false
  rerr := .none
  rval := 0
  txb0 := 0
  txb1 := 0
  rxb0 := 0
  rxb1 := 0
  busy := false
  encReg := HandleRegs.load p.busEnc p.addr7Enc p.timeoutEnc
  monReg := HandleRegs.load p.busMon p.addr7Mon p.timeoutMon
  dir := p.dir
  calv := false
  imaxUa := 0
  rshUohm := 0
  calreg := 0
  tst := .idle
  tcnt := 0
  seq := .idle
  cfg := p
  bus := []
  host := []
  script := []
  drawn := 0

/-- The machine right after reset (rule R220). -/
def State.reset : State := State.resetWith Config.chip

end Sys2Proof.Machine
end

