-- ==== Sys2Proof/Machine/Flags.lean ====
section
/-! DEFINITION. The RTB has no condition codes and no sticky flags (rule R31); its only flag-like values are the
response fields `ok` and `err` (rule R78). This file gives their codes, how a bus outcome becomes one, and
the numeric codings of the one-bit control registers. -/

namespace Sys2Proof.Machine

/-- The two-bit code of `err` (rule R78). -/
def Err.code : Err → BitVec 2
  | .none => 0
  | .bus => 1
  | .range => 2
  | .illegal => 3

/-- `err` of a command that reports its transaction's outcome (rule R79: "`BUS`" when `ok` = 0). -/
def Err.ofBus (ok : Bool) : Err := if ok then .none else .bus

/-- A truth value as a response value: 1 for true, 0 for false (rule R79). -/
def boolVal (b : Bool) : U64 := if b then 1 else 0

/-- The response triple the host reads (rule R78). -/
def State.response (s : State) : Bool × BitVec 2 × U64 := (s.rok, s.rerr.code, s.rval)

/-- The bit of `DIR`: `CW` = 0, `CCW` = 1 (rule R36). -/
def dirCode : Dir → BitVec 1
  | .cw => 0
  | .ccw => 1

/-- The bit of `TST`: `T_IDLE` = 0, `T_WAIT` = 1 (rule R41). -/
def Tst.code : Tst → BitVec 1
  | .idle => 0
  | .wait => 1

/-- The two-bit code of a request's `kind` (rule R55). -/
def BusKind.code : BusKind → BitVec 2
  | .memRead => 0
  | .memWrite => 1
  | .readyCheck => 2

end Sys2Proof.Machine
end

