-- ==== Sys2Proof/Machine/Operands.lean ====
section
/-! DEFINITION. The pure functions the rules compute with: conversions (rules R11, R17), the codec (R121 to R125),
field descriptors (R133), the angle and monitor arithmetic (R140, R165 to R167), and the address decode
of the symbolic registers (R53). -/

namespace Sys2Proof.Machine

/-! ## Conversions -/

/-- `s16(w)`: a word read as a signed number (rule R11). -/
def s16 (w : U16) : Int := if w.toNat < 0x8000 then (w.toNat : Int) else (w.toNat : Int) - 0x10000

/-- `u64(n)`: the 64-bit two's-complement encoding of an integer (rule R11). -/
def u64 (n : Int) : U64 := BitVec.ofInt 64 n

/-- `zext_64` of a byte or a word (rule R11). -/
def zext64 {w : Nat} (v : BitVec w) : U64 := v.setWidth 64

/-- Rounded division, a tie going up (rule R17). -/
def rdiv (a b : Nat) : Nat := (2 * a + b) / (2 * b)

/-! ## The bitfield codec -/

/-- `maskByte` (rule R121). -/
def maskByte (value mask : U8) (invert : Bool) : U8 := if invert then value &&& ~~~mask else value &&& mask

/-- `maskWord` (rule R122). -/
def maskWord (value mask : U16) (invert : Bool) : U16 := if invert then value &&& ~~~mask else value &&& mask

/-- `word(b0, b1)`: high byte first (rule R124). -/
def wordOf (b0 b1 : U8) : U16 := (b0.setWidth 16 <<< 8) ||| b1.setWidth 16

/-- `bytes(w)[0]`, the byte transmitted first (rule R125). -/
def byte0 (w : U16) : U8 := w.extractLsb' 8 8

/-- `bytes(w)[1]` (rule R125). -/
def byte1 (w : U16) : U8 := w.extractLsb' 0 8

/-- `bytes(w)` (rule R125). -/
def bytesOf (w : U16) : List U8 := [byte0 w, byte1 w]

/-- The field update of `FSETB` (rule R128): clear the field, OR in the bits as given. -/
def updateByte (old mask bits : U8) : U8 := maskByte old mask true ||| bits

/-- The field update of `FSETW` (rule R130). -/
def updateWord (old mask bits : U16) : U16 := maskWord old mask true ||| bits

/-! ## Field descriptors (rule R133): conveniences of the host, no command performs them -/

/-- The mask of a contiguous field of width `wid` at bit offset `off`. -/
def fieldMask (w wid off : Nat) : BitVec w := BitVec.ofNat w ((2 ^ wid - 1) <<< off)

/-- The in-place value of a right-aligned option number. -/
def inPlace {w : Nat} (mask : BitVec w) (off x : Nat) : BitVec w := (BitVec.ofNat w x <<< off) &&& mask

/-- The option number of an in-place value. -/
def rightAligned {w : Nat} (g : BitVec w) (off : Nat) : Nat := (g >>> off).toNat

/-! ## The encoder's arithmetic -/

/-- `reflect12` (rule R140): the 12-bit ones' complement. -/
def reflect12 (raw : U16) : U16 := (0x0FFF#16 - raw) &&& 0x0FFF#16

/-- `dircorr` (rule R140): the word as read for `CW`, unmasked. -/
def dircorr (dir : Dir) (raw : U16) : U16 :=
  match dir with
  | .cw => raw
  | .ccw => reflect12 raw

/-- The count of `EGREAL` (rules R80 and R143). -/
def angleCount (unit : AngleUnit) (angle : U16) : Int :=
  match unit with
  | .deg => 45 * (angle.toNat : Int)
  | .rad => (angle.toNat : Int)

/-- The largest position the setters accept (rule R144). -/
def maxPosition : U16 := 0x0FFF

/-! ## The monitor's arithmetic -/

/-- `busmv` (rule R166), millivolts; `>>` is the logical shift. -/
def busmv (w : U16) : Int := ((w >>> 3).toNat : Int) * 4

/-- The count of `MGBUSV` (rule R174): the sentinel when the overflow bit is set. -/
def busVoltage (ovf w : U16) : Int := if w &&& ovf ≠ 0 then -100000 else busmv w

/-- `K_CAL` (rule R167). -/
def kCal : Nat := 1342177280000000

/-- `calval(I, R)` is defined (rule R167): I × R > 0 and the result is at most 0xFFFF. -/
def calDefined (imaxUa rshUohm : U32) : Bool :=
  decide (0 < imaxUa.toNat * rshUohm.toNat) && decide (rdiv kCal (imaxUa.toNat * rshUohm.toNat) ≤ 0xFFFF)

/-- `calval(I, R)` (rule R167), meant where `calDefined` holds. -/
def calval (imaxUa rshUohm : U32) : U16 := BitVec.ofNat 16 (rdiv kCal (imaxUa.toNat * rshUohm.toNat))

/-- `CUR_LSB` (rule R39): 32 bits with the binary point 15 places up, a function of `IMAX_UA`. -/
def State.curLsb (s : State) : U32 := s.imaxUa

/-- `PWR_LSB` (rule R39): 37 bits with the binary point 15 places up, 20 × `CUR_LSB`. -/
def State.pwrLsb (s : State) : BitVec 37 := 20 * s.imaxUa.setWidth 37

/-! ## Address decode -/

/-- The symbolic registers of rule R53. -/
inductive SymReg where
  | encZpos
  | encMpos
  | encMang
  | encConfHi
  | encConfLo
  | encStatus
  | encRawAngle
  | encAngle
  | monConfig
  | monShunt
  | monBus
  | monPower
  | monCurrent
  | monCalib
  deriving DecidableEq, Repr

/-- The handle of a symbolic register (rule R53). -/
def symHandle : SymReg → Handle
  | .encZpos | .encMpos | .encMang | .encConfHi | .encConfLo | .encStatus | .encRawAngle | .encAngle => .enc
  | .monConfig | .monShunt | .monBus | .monPower | .monCurrent | .monCalib => .mon

/-- The address parameter of a symbolic register (rule R53). -/
def symAddr (p : Params) : SymReg → U8
  | .encZpos => p.encZpos
  | .encMpos => p.encMpos
  | .encMang => p.encMang
  | .encConfHi => p.encConfHi
  | .encConfLo => p.encConfLo
  | .encStatus => p.encStatus
  | .encRawAngle => p.encRawAngle
  | .encAngle => p.encAngle
  | .monConfig => p.monConfig
  | .monShunt => p.monShunt
  | .monBus => p.monBus
  | .monPower => p.monPower
  | .monCurrent => p.monCurrent
  | .monCalib => p.monCalib

/-- The width in bytes of a symbolic register (rule R53). -/
def symBytes : SymReg → Nat
  | .encConfHi | .encConfLo | .encStatus => 1
  | .encZpos | .encMpos | .encMang | .encRawAngle | .encAngle => 2
  | .monConfig | .monShunt | .monBus | .monPower | .monCurrent | .monCalib => 2

/-- The configuration register `SETCFG` writes (rule R131). -/
def configReg : Handle → SymReg
  | .enc => .encConfHi
  | .mon => .monConfig

end Sys2Proof.Machine
end

