-- ==== Sys2Proof/Machine/Ops.lean ====
section
/-! DEFINITION. The shared operations: the updates of State, the environment's answers, the transaction FSM and the
primitives `MemRead`, `MemWrite`, `BusReady` (rules R100 to R107), completion (`respond`, `raise
Illegal`: rule R16, the RTB's only form of taking a failure, R205), acceptance (R76) and `recal` (R168). -/

namespace Sys2Proof

/-! ## What an answer says of its transaction (rules R102 and R103) -/

/-- The response is taken before the limit (rule R102); otherwise the transaction times out. -/
def Answer.arrives (a : Answer) (limit : Nat) : Bool := decide (a.after < limit)

/-- The transaction succeeds: its response is taken and says `ok` (rules R56 and R103). -/
def Answer.succeeds (a : Answer) (limit : Nat) : Bool := a.arrives limit && a.ok

/-- The value of `TCNT` when the transaction ends (rule R102). -/
def Answer.elapsed (a : Answer) (limit : Nat) : Nat := min a.after limit

/-- The outcome of a transaction as rules R56 and R103 give it: n bytes for a successful `MEM_READ`, no bytes in
every other case. -/
def Answer.response (a : Answer) (req : Machine.BusRequest) (limit : Nat) : Machine.BusResponse :=
  { ok := a.succeeds limit
    rdata := if a.succeeds limit && req.kind == .memRead then [a.data0, a.data1].take req.n else [] }

end Sys2Proof

namespace Sys2Proof.Machine

/-- The registers of a handle (rules R33 to R35). -/
def State.handle (s : State) : Handle → HandleRegs
  | .enc => s.encReg
  | .mon => s.monReg

/-- The address of a symbolic register under the machine's parameters (rule R53). -/
def State.addrOf (s : State) (r : SymReg) : U8 := symAddr s.cfg r

/-! ## The environment's answers (rules R15 and R103) -/

/-- The answer the environment gives to the `k`-th transaction from here: the listed one, or a free one past
the list's end. -/
def State.answerAt (s : State) (k : Nat) : Answer :=
  match s.script.drop k with
  | a :: _ => a
  | [] => Config.freeAnswer (s.drawn + (k - s.script.length))

/-- The answer to the next transaction. -/
def State.answer (s : State) : Answer := s.answerAt 0

/-- One answer is used up. -/
def State.consume (s : State) : State :=
  { s with script := s.script.drop 1, drawn := s.drawn + (1 - s.script.length) }

/-! ## The transaction FSM (rule R102) -/

/-- How `Xact` ended, or that it has not. -/
inductive XactEnd where
  | pending
  | taken
  | timedOut
  deriving DecidableEq, Repr

/-- `TST`, `TCNT` and the end of the transaction in flight. -/
structure Fsm where
  tst : Tst
  tcnt : Nat
  result : XactEnd
  deriving DecidableEq, Repr

/-- The FSM as `Xact` starts it. -/
def fsmStart : Fsm := ⟨.wait, 0, .pending⟩

/-- One time unit of the loop of rule R102, where the response is present from unit `after` on. -/
def fsmTick (limit after : Nat) (f : Fsm) : Fsm :=
  match f.tst with
  | .idle => f
  | .wait =>
    if after ≤ f.tcnt then ⟨.idle, f.tcnt, .taken⟩
    else if f.tcnt + 1 = limit then ⟨.idle, f.tcnt + 1, .timedOut⟩
    else ⟨.wait, f.tcnt + 1, .pending⟩

/-- `k` time units of the loop. -/
def fsmIter (limit after : Nat) : Nat → Fsm → Fsm
  | 0, f => f
  | k + 1, f => fsmIter limit after k (fsmTick limit after f)

/-- The next value of `SEQ` after a transaction (rule R43). -/
def SeqStep.advance : SeqStep → SeqStep
  | .idle => .done1
  | .done0 => .done1
  | .done1 => .done2
  | .done2 => .done2

/-- The FSM presents a request (rule R102): `TST <- T_WAIT`, `TCNT <- 0`. -/
def State.xactBegin (s : State) : State := { s with tst := .wait, tcnt := 0 }

/-- The FSM ends the transaction: `TST <- T_IDLE`, `TCNT` as the elapsed time, `SEQ` one transaction further, and the
transaction recorded. -/
def State.xactEnd (s : State) (elapsed : Nat) (tr : Transaction) : State :=
  { s with tst := .idle, tcnt := elapsed, seq := s.seq.advance, bus := s.bus ++ [tr] }

/-- `Xact(req, limit)` (rule R102), its loop taken in one step (see `fsmIter`). -/
def State.xact (s : State) (req : BusRequest) (limit : Nat) : State :=
  (s.xactBegin.consume).xactEnd (s.answer.elapsed limit) ⟨req, s.answer.response req limit⟩

/-! ## The three primitives (rules R104 to R106) -/

/-- The request of a `MemRead` (rules R100 and R104). -/
def State.readRequest (s : State) (h : Handle) (addr : U8) (n : Nat) : BusRequest :=
  { kind := .memRead, bus := (s.handle h).bus, dev := (s.handle h).dev, reg := addr, n := n, wdata := [],
    time := (s.handle h).tmo, trials := 0 }

/-- The request of a `MemWrite` (rules R100 and R105). -/
def State.writeRequest (s : State) (h : Handle) (addr : U8) (wdata : List U8) : BusRequest :=
  { kind := .memWrite, bus := (s.handle h).bus, dev := (s.handle h).dev, reg := addr, n := wdata.length,
    wdata := wdata, time := (s.handle h).tmo, trials := 0 }

/-- The request of a `BusReady` (rule R106). -/
def State.readyRequest (s : State) (h : Handle) : BusRequest :=
  { kind := .readyCheck, bus := (s.handle h).bus, dev := (s.handle h).dev, reg := 0, n := 0, wdata := [],
    time := (s.handle h).tmo, trials := s.cfg.probeTrials }

/-- The limit of a `MEM_READ` or `MEM_WRITE` (rule R102). -/
def State.memLimit (s : State) (h : Handle) : Nat := (s.handle h).tmo.toNat

/-- The limit of a `READY_CHECK` (rules R102 and R106). -/
def State.readyLimit (s : State) (h : Handle) : Nat := s.cfg.probeTrials * (s.handle h).tmo.toNat

/-- `RXB` after a read (rules R28 and R104): the bytes received, or unspecified bytes after a failure. -/
def State.loadRx (s : State) (n : Nat) (ok : Bool) (a : Answer) : State :=
  { s with
    rxb0 := if ok then a.data0 else a.stale0
    rxb1 := if ok then (if n = 2 then a.data1 else s.rxb1) else a.stale1 }

/-- `TXB[0]` before a one-byte write (rules R101 and R105). -/
def State.loadTx1 (s : State) (b : U8) : State := { s with txb0 := b }

/-- `TXB[0]`, `TXB[1]` before a two-byte write (rules R101 and R105). -/
def State.loadTx2 (s : State) (b0 b1 : U8) : State := { s with txb0 := b0, txb1 := b1 }

/-- What `MemRead` returns (rule R104): the bytes, `ok`, and the state it leaves. -/
structure ReadResult where
  byte0 : U8
  byte1 : U8
  ok : Bool
  state : State
  deriving DecidableEq, Repr

/-- The word of a two-byte read, high byte first (rule R101). -/
def ReadResult.word (r : ReadResult) : U16 := wordOf r.byte0 r.byte1

/-- `MemRead(h, addr, n)` (rule R104): on success the bytes received, on failure `draw(8)` bytes. -/
def memRead (h : Handle) (addr : U8) (n : Nat) (s : State) : ReadResult :=
  let a := s.answer
  let ok := a.succeeds (s.memLimit h)
  { byte0 := if ok then a.data0 else a.draw0
    byte1 := if ok then a.data1 else a.draw1
    ok := ok
    state := (s.xact (s.readRequest h addr n) (s.memLimit h)).loadRx n ok a }

/-- What `MemWrite` and `BusReady` return: `ok`, and the state they leave. -/
structure OkResult where
  ok : Bool
  state : State
  deriving DecidableEq, Repr

/-- `MemWrite(h, addr, 1, [b])` (rule R105): the bytes sent are those of `TXB`. -/
def memWrite1 (h : Handle) (addr : U8) (b : U8) (s : State) : OkResult :=
  let s1 := s.loadTx1 b
  { ok := s1.answer.succeeds (s1.memLimit h)
    state := s1.xact (s1.writeRequest h addr [s1.txb0]) (s1.memLimit h) }

/-- `MemWrite(h, addr, 2, bytes(w))` (rules R101 and R105). -/
def memWrite2 (h : Handle) (addr : U8) (w : U16) (s : State) : OkResult :=
  let s1 := s.loadTx2 (byte0 w) (byte1 w)
  { ok := s1.answer.succeeds (s1.memLimit h)
    state := s1.xact (s1.writeRequest h addr [s1.txb0, s1.txb1]) (s1.memLimit h) }

/-- `BusReady(h)` (rule R106). -/
def busReady (h : Handle) (s : State) : OkResult :=
  { ok := s.answer.succeeds (s.readyLimit h)
    state := s.xact (s.readyRequest h) (s.readyLimit h) }

/-! ## Acceptance and completion -/

/-- Acceptance of a command (rule R76): the latches are written, `BUSY <- 1`, the sequencer starts. -/
def State.accept (s : State) (c : Command) : State :=
  { s with cw := c.cw, opa := c.opa, opb := c.opb, busy := true, seq := .done0 }

/-- The command triple in the latches (rule R26). -/
def State.latched (s : State) : Command := ⟨s.cw, s.opa, s.opb⟩

/-- The host has presented its next command. -/
def State.popHost (s : State) : State := { s with host := s.host.drop 1 }

/-- `respond(ok, err, val)` (rule R16): the response registers are written, `BUSY <- 0`, the sequencer is idle. -/
def State.respond (s : State) (err : Err) (val : U64) : State :=
  { s with rok := decide (err = .none), rerr := err, rval := val, busy := false, seq := .idle }

/-- The response of a command that reports its bus outcome (rule R79). -/
def State.respondBus (s : State) (ok : Bool) (val : U64) : State := s.respond (Err.ofBus ok) val

/-- `raise Illegal` (rules R16 and R198). -/
def State.raiseIllegal (s : State) : State := s.respond .illegal 0

/-! ## Calibration (rules R168 and R181) -/

/-- `CALREG <- v` (rule R168). -/
def State.setCalreg (s : State) (v : U16) : State := { s with calreg := v }

/-- `IMAX_UA <- i; RSH_UOHM <- r; CALV <- 1` (rule R181). -/
def State.setCalibration (s : State) (i r : U32) : State := { s with imaxUa := i, rshUohm := r, calv := true }

/-- `recal()` (rule R168): `CALREG` is recomputed and written to the device; the outcome is discarded. Meant where
`calDefined` holds of the stored parameters. -/
def recal (s : State) : State :=
  let s1 := s.setCalreg (calval s.imaxUa s.rshUohm)
  (memWrite2 .mon (s1.addrOf .monCalib) s1.calreg s1).state

/-- The precondition `CALV` = 1 of `MGCUR` and `MGPWR` (R179, R180, U6) and the domain of `calval` (R167, U7): why
the stored calibration cannot be used, if it cannot. -/
def State.calibrationProblem (s : State) : Option Refusal :=
  if s.calv = false then some .calibrationNotValid
  else if calDefined s.imaxUa s.rshUohm = false then some .calibrationOutsideDomain
  else none

end Sys2Proof.Machine
end

