-- ==== Sys2Proof/Machine/Codec.lean ====
section
/-! DEFINITION. The pure codec commands (`41_codec.md`, rules R120 to R125). -/

namespace Sys2Proof.Machine

/-- `MSKB` (rule R121). -/
def execMskb (value mask : U8) (invert : Bool) (s : State) : Host.Outcome State Fault Refusal :=
  .next (s.respond .none (zext64 (maskByte value mask invert)))

/-- `MSKW` (rule R122). -/
def execMskw (value mask : U16) (invert : Bool) (s : State) : Host.Outcome State Fault Refusal :=
  .next (s.respond .none (zext64 (maskWord value mask invert)))

/-- `CMPW` (rule R124). -/
def execCmpw (b0 b1 : U8) (s : State) : Host.Outcome State Fault Refusal :=
  .next (s.respond .none (zext64 (wordOf b0 b1)))

/-- `SPLW` (rule R125): `byte[0]` in `val[7:0]`, `byte[1]` in `val[15:8]`. -/
def execSplw (w : U16) (s : State) : Host.Outcome State Fault Refusal :=
  .next (s.respond .none (zext64 (((byte1 w).setWidth 16 <<< 8) ||| (byte0 w).setWidth 16)))

end Sys2Proof.Machine
end

