-- ==== Sys2Proof/Machine/Encoder.lean ====
section
/-! DEFINITION. The encoder commands (`42_encoder.md`, rules R140 to R151). All use handle ENC. -/

namespace Sys2Proof.Machine

/-- Reads a 16-bit register whose outcome the command does not examine (rule R200). -/
def readSym (r : SymReg) (s : State) : ReadResult := memRead (symHandle r) (s.addrOf r) 2 s

/-- `setpos` (rule R144): a value above 0x0FFF is rejected before any transaction. -/
def setpos (r : SymReg) (value : U16) (s : State) : State :=
  let w := memWrite2 .enc (s.addrOf r) value s
  if maxPosition < value then s.respond .range 0 else w.state.respondBus w.ok 0

/-- `magq` (rule R148): exact equality of the whole status byte, the source's single comparison policy. -/
def magq (flag : U8) (s : State) : State :=
  let r := memRead .enc (s.addrOf .encStatus) 1 s
  r.state.respond .none (boolVal (r.byte0 == flag))

/-- `EGRAW` (rule R141). -/
def execEgraw (s : State) : Host.Outcome State Fault Refusal :=
  let r := readSym .encRawAngle s
  .next (r.state.respond .none (zext64 (dircorr s.dir r.word)))

/-- `EGANG` (rule R142). -/
def execEgang (s : State) : Host.Outcome State Fault Refusal :=
  let r := readSym .encAngle s
  .next (r.state.respond .none (zext64 (dircorr s.dir r.word)))

/-- `EGREAL` (rule R143): the direction-corrected filtered angle, as a count of its unit. -/
def execEgreal (unit : AngleUnit) (s : State) : Host.Outcome State Fault Refusal :=
  let r := readSym .encAngle s
  .next (r.state.respond .none (u64 (angleCount unit (dircorr s.dir r.word))))

/-- `ESZPOS` (rule R145). -/
def execEszpos (value : U16) (s : State) : Host.Outcome State Fault Refusal := .next (setpos .encZpos value s)

/-- `ESMPOS` (rule R146). -/
def execEsmpos (value : U16) (s : State) : Host.Outcome State Fault Refusal := .next (setpos .encMpos value s)

/-- `ESMANG` (rule R147). -/
def execEsmang (value : U16) (s : State) : Host.Outcome State Fault Refusal := .next (setpos .encMang value s)

/-- `EMDET` (rule R149). -/
def execEmdet (s : State) : Host.Outcome State Fault Refusal := .next (magq s.cfg.encStMd s)

/-- `EMSTR` (rule R150). -/
def execEmstr (s : State) : Host.Outcome State Fault Refusal := .next (magq s.cfg.encStMh s)

/-- `EMWEAK` (rule R151). -/
def execEmweak (s : State) : Host.Outcome State Fault Refusal := .next (magq s.cfg.encStMl s)

end Sys2Proof.Machine
end

