-- ==== Sys2Proof/Machine/Field.lean ====
section
/-! DEFINITION. The field access commands (`41_codec.md`, rules R127 to R131). -/

namespace Sys2Proof.Machine

/-- `FGETB` (rule R127): the outcome of the read is not examined. -/
def execFgetb (h : Handle) (addr : U8) (mask : U8) (s : State) : Host.Outcome State Fault Refusal :=
  let r := memRead h addr 1 s
  .next (r.state.respond .none (zext64 (maskByte r.byte0 mask false)))

/-- `FSETB` (rule R128): a failed read ends the command without a write. -/
def execFsetb (h : Handle) (addr : U8) (mask bits : U8) (s : State) : Host.Outcome State Fault Refusal :=
  let r := memRead h addr 1 s
  let w := memWrite1 h addr (updateByte r.byte0 mask bits) r.state
  .next (if r.ok = false then r.state.respond .bus 0 else w.state.respondBus w.ok 0)

/-- `FGETW` (rule R129): the outcome of the read is not examined. -/
def execFgetw (h : Handle) (addr : U8) (mask : U16) (s : State) : Host.Outcome State Fault Refusal :=
  let r := memRead h addr 2 s
  .next (r.state.respond .none (zext64 (maskWord r.word mask false)))

/-- `FSETW` (rule R130): a failed read ends the command without a write. -/
def execFsetw (h : Handle) (addr : U8) (mask bits : U16) (s : State) : Host.Outcome State Fault Refusal :=
  let r := memRead h addr 2 s
  let w := memWrite2 h addr (updateWord r.word mask bits) r.state
  .next (if r.ok = false then r.state.respond .bus 0 else w.state.respondBus w.ok 0)

/-- `SETCFG` (rule R131): a blind 16-bit write of the handle's configuration register. -/
def execSetcfg (h : Handle) (value : U16) (s : State) : Host.Outcome State Fault Refusal :=
  let r := memWrite2 h (s.addrOf (configReg h)) value s
  .next (r.state.respondBus r.ok 0)

end Sys2Proof.Machine
end

