-- ==== Sys2Proof/Machine/Monitor.lean ====
section
/-! DEFINITION. The monitor commands (`43_monitor.md`, rules R165 to R182). All use handle MON. -/

namespace Sys2Proof.Machine

/-- `MGRBUS` (rule R170): the shift and scale are applied at the raw level; no overflow test. -/
def execMgrbus (s : State) : Host.Outcome State Fault Refusal :=
  let r := readSym .monBus s
  .next (r.state.respond .none (u64 (busmv r.word)))

/-- `MGRSHV` (rule R171). -/
def execMgrshv (s : State) : Host.Outcome State Fault Refusal :=
  let r := readSym .monShunt s
  .next (r.state.respond .none (u64 (s16 r.word)))

/-- `MGRCUR` (rule R172): no re-calibration. -/
def execMgrcur (s : State) : Host.Outcome State Fault Refusal :=
  let r := readSym .monCurrent s
  .next (r.state.respond .none (u64 (s16 r.word)))

/-- `MGRPWR` (rule R173): signed like the others, no re-calibration. -/
def execMgrpwr (s : State) : Host.Outcome State Fault Refusal :=
  let r := readSym .monPower s
  .next (r.state.respond .none (u64 (s16 r.word)))

/-- `MGBUSV` (rule R174): only the overflow bit is tested. -/
def execMgbusv (s : State) : Host.Outcome State Fault Refusal :=
  let r := readSym .monBus s
  .next (r.state.respond .none (u64 (busVoltage s.cfg.monBusOvf r.word)))

/-- `MGSHV` (rule R175). -/
def execMgshv (s : State) : Host.Outcome State Fault Refusal :=
  let r := readSym .monShunt s
  .next (r.state.respond .none (u64 (s16 r.word * 10)))

/-- `MGCUR` (rule R179): read implies re-calibrate. -/
def execMgcur (s : State) : Host.Outcome State Fault Refusal :=
  match s.calibrationProblem with
  | some e => .refused e
  | none =>
    let r := readSym .monCurrent (recal s)
    .next (r.state.respond .none (u64 (s16 r.word * (s.curLsb.toNat : Int))))

/-- `MGPWR` (rule R180): read implies re-calibrate. -/
def execMgpwr (s : State) : Host.Outcome State Fault Refusal :=
  match s.calibrationProblem with
  | some e => .refused e
  | none =>
    let r := readSym .monPower (recal s)
    .next (r.state.respond .none (u64 (s16 r.word * (s.pwrLsb.toNat : Int))))

/-- `MCAL` (rule R181): the calibration state is updated before the write and stays when the write fails. -/
def execMcal (imaxUa rshUohm : U32) (s : State) : Host.Outcome State Fault Refusal :=
  if calDefined imaxUa rshUohm = true then
    .next ((recal (s.setCalibration imaxUa rshUohm)).respond .none 0)
  else .refused .calibrationOutsideDomain

/-- `MRST` (rule R182): a blind write of the reset bit to the device; no state of the RTB is reset. -/
def execMrst (s : State) : Host.Outcome State Fault Refusal :=
  let r := memWrite2 .mon (s.addrOf .monConfig) s.cfg.monCfgRst s
  .next (r.state.respondBus r.ok 0)

end Sys2Proof.Machine
end

