-- ==== Sys2Proof/Machine/Transport.lean ====
section
/-! DEFINITION. The transport commands (`40_transport.md`, rules R110 to R114). -/

namespace Sys2Proof.Machine

/-- `RDB` (rule R110). -/
def execRdb (h : Handle) (addr : U8) (s : State) : Host.Outcome State Fault Refusal :=
  let r := memRead h addr 1 s
  .next (r.state.respondBus r.ok (zext64 r.byte0))

/-- `WRB` (rule R111). -/
def execWrb (h : Handle) (addr : U8) (data : U8) (s : State) : Host.Outcome State Fault Refusal :=
  let r := memWrite1 h addr data s
  .next (r.state.respondBus r.ok 0)

/-- `RDW` (rule R112). -/
def execRdw (h : Handle) (addr : U8) (s : State) : Host.Outcome State Fault Refusal :=
  let r := memRead h addr 2 s
  .next (r.state.respondBus r.ok (zext64 r.word))

/-- `WRW` (rule R113). -/
def execWrw (h : Handle) (addr : U8) (data : U16) (s : State) : Host.Outcome State Fault Refusal :=
  let r := memWrite2 h addr data s
  .next (r.state.respondBus r.ok 0)

/-- `PROBE` (rule R114): not acknowledged is the result 0, not a failure. -/
def execProbe (h : Handle) (s : State) : Host.Outcome State Fault Refusal :=
  let r := busReady h s
  .next (r.state.respond .none (boolVal r.ok))

end Sys2Proof.Machine
end

