-- ==== Sys2Proof/Machine/Dispatch.lean ====
section
/-! DEFINITION. One arm per command of the opcode map (rule R83). -/

namespace Sys2Proof.Machine

def exec (i : Instr) (s : State) : Host.Outcome State Fault Refusal :=
  match i with
  | .rdb h addr => Sys2Proof.Machine.execRdb h addr s
  | .wrb h addr data => Sys2Proof.Machine.execWrb h addr data s
  | .rdw h addr => Sys2Proof.Machine.execRdw h addr s
  | .wrw h addr data => Sys2Proof.Machine.execWrw h addr data s
  | .probe h => Sys2Proof.Machine.execProbe h s
  | .mskb value mask invert => Sys2Proof.Machine.execMskb value mask invert s
  | .mskw value mask invert => Sys2Proof.Machine.execMskw value mask invert s
  | .cmpw b0 b1 => Sys2Proof.Machine.execCmpw b0 b1 s
  | .splw w => Sys2Proof.Machine.execSplw w s
  | .fgetb h addr mask => Sys2Proof.Machine.execFgetb h addr mask s
  | .fsetb h addr mask bits => Sys2Proof.Machine.execFsetb h addr mask bits s
  | .fgetw h addr mask => Sys2Proof.Machine.execFgetw h addr mask s
  | .fsetw h addr mask bits => Sys2Proof.Machine.execFsetw h addr mask bits s
  | .setcfg h value => Sys2Proof.Machine.execSetcfg h value s
  | .egraw => Sys2Proof.Machine.execEgraw s
  | .egang => Sys2Proof.Machine.execEgang s
  | .egreal unit => Sys2Proof.Machine.execEgreal unit s
  | .eszpos value => Sys2Proof.Machine.execEszpos value s
  | .esmpos value => Sys2Proof.Machine.execEsmpos value s
  | .esmang value => Sys2Proof.Machine.execEsmang value s
  | .emdet => Sys2Proof.Machine.execEmdet s
  | .emstr => Sys2Proof.Machine.execEmstr s
  | .emweak => Sys2Proof.Machine.execEmweak s
  | .mgrbus => Sys2Proof.Machine.execMgrbus s
  | .mgrshv => Sys2Proof.Machine.execMgrshv s
  | .mgrcur => Sys2Proof.Machine.execMgrcur s
  | .mgrpwr => Sys2Proof.Machine.execMgrpwr s
  | .mgbusv => Sys2Proof.Machine.execMgbusv s
  | .mgshv => Sys2Proof.Machine.execMgshv s
  | .mgcur => Sys2Proof.Machine.execMgcur s
  | .mgpwr => Sys2Proof.Machine.execMgpwr s
  | .mcal imaxUa rshUohm => Sys2Proof.Machine.execMcal imaxUa rshUohm s
  | .mrst => Sys2Proof.Machine.execMrst s

end Sys2Proof.Machine
end

