-- ==== Sys2Proof/Machine/Port.lean ====
section
/-! DEFINITION. The command port (rules R29, R76 and R224): what the RTB finds there. -/

namespace Sys2Proof.Machine

/-- The command the RTB accepts now: none while `BUSY` = 1, and none when the host presents none (rule R76). -/
def State.nextCommand (s : State) : Option Command := if s.busy then none else s.host.head?

/-- The host presents `c` next, to an RTB that is free to accept it. -/
def State.present (s : State) (c : Command) : State := { s with busy := false, host := c :: s.host }

end Sys2Proof.Machine
end

