-- ==== Sys2Proof/Machine/Step.lean ====
section
/-! DEFINITION. One step of the RTB: one command from acceptance to response (rules R76 and R84), or nothing when no
command can be accepted. -/

namespace Sys2Proof.Machine

/-- One step. With `BUSY` = 1 nothing is accepted (R76); with no command presented the RTB waits; otherwise the command
is accepted, decoded from the latches, and carried out, an illegal one by `raise Illegal` (R84, R85). -/
def step (s : State) : Host.Outcome State Fault Refusal :=
  match s.nextCommand with
  | none => .next s
  | some c =>
    match decode (s.popHost.accept c).latched with
    | .ok i => exec i (s.popHost.accept c)
    | .error _ => .next (s.popHost.accept c).raiseIllegal

/-- The state in which the host presents the instruction held by the low `nbits` bits of `w` (every higher bit of the 96
being zero) as its next command, and the RTB is free to accept it. -/
def State.withFetchWord (s : State) (nbits w : Nat) : State := s.present (Command.ofBits (w % 2 ^ nbits))

end Sys2Proof.Machine
end

