-- ==== Sys2Proof/Machine/Physical.lean ====
section
/-! DEFINITION. Physical values (rules R18 and R80): a command with a physical-unit result returns the count N, and the
value is N × LSB with the fixed weight of the command. -/

namespace Sys2Proof.Machine

/-- The units of rule R80. -/
inductive PhysUnit where
  | degree
  | radian
  | millivolt
  | microvolt
  | microampere
  | microwatt
  deriving DecidableEq, Repr

/-- A least-significant-bit weight: `coeff` units, times π where `timesPi` says so. -/
structure Lsb where
  coeff : ℚ
  timesPi : Bool
  unit : PhysUnit
  deriving DecidableEq, Repr

/-- The LSB table of rule R80; `none` for a command without a physical-unit result. -/
def lsb : Instr → Option Lsb
  | .egreal .deg => some ⟨1 / 2 ^ 9, false, .degree⟩
  | .egreal .rad => some ⟨1 / 2 ^ 11, true, .radian⟩
  | .mgbusv => some ⟨1, false, .millivolt⟩
  | .mgshv => some ⟨1, false, .microvolt⟩
  | .mgcur => some ⟨1 / 2 ^ 15, false, .microampere⟩
  | .mgpwr => some ⟨1 / 2 ^ 15, false, .microwatt⟩
  | .rdb _ _ | .wrb _ _ _ | .rdw _ _ | .wrw _ _ _ | .probe _ | .mskb _ _ _ | .mskw _ _ _ | .cmpw _ _ | .splw _ => none
  | .fgetb _ _ _ | .fsetb _ _ _ _ | .fgetw _ _ _ | .fsetw _ _ _ _ | .setcfg _ _ => none
  | .egraw | .egang | .eszpos _ | .esmpos _ | .esmang _ | .emdet | .emstr | .emweak => none
  | .mgrbus | .mgrshv | .mgrcur | .mgrpwr | .mcal _ _ | .mrst => none

/-- The count N a response carries (rule R80): `val` read as `u64(N)`. -/
def countOf (val : U64) : Int := val.toInt

/-- The value of a response in the command's unit (rule R80), as a multiple of 1 or of π. -/
def physicalValue (i : Instr) (val : U64) : Option ℚ := (lsb i).map fun l => (countOf val : ℚ) * l.coeff

end Sys2Proof.Machine
end

