-- ==== Sys2Proof/Machine/Pseudo.lean ====
section
/-! DEFINITION. The 24 pseudo-instructions (rule R89): each expands to exactly one `FSETB`, `FGETB`, `FSETW` or `FGETW`
with the address and mask of its field's descriptor (rules R158 and R190). -/

namespace Sys2Proof.Machine

/-- The register of an encoder configuration half (rule R158). -/
def halfReg : ConfHalf → SymReg
  | .hi => .encConfHi
  | .lo => .encConfLo

/-- The descriptor parameters of an encoder field (rule R158): power mode is bits 0 to 1 and hysteresis bits 2 to 3
of the low half; the rest are parameters. -/
def encFieldParam (p : Params) : EncField → EncFieldParam
  | .pm => ⟨.lo, 0x03⟩
  | .hyst => ⟨.lo, 0x0C⟩
  | .outs => p.encOuts
  | .pwmf => p.encPwmf
  | .sf => p.encSf
  | .fth => p.encFth
  | .wd => p.encWd

/-- `ENC_F_*_REG` (rule R158). -/
def encFieldAddr (p : Params) (f : EncField) : U8 := symAddr p (halfReg (encFieldParam p f).half)

/-- `ENC_F_*_MASK` (rule R158). -/
def encFieldMask (p : Params) (f : EncField) : U8 := (encFieldParam p f).mask

/-- `MON_F_*_MASK` (rule R190). -/
def monFieldMask (p : Params) : MonField → U16
  | .vr => p.monVr
  | .pga => p.monPga
  | .badc => p.monBadc
  | .sadc => p.monSadc
  | .mode => p.monMode

/-- The one command a pseudo-instruction stands for (rules R89, R158 and R190). -/
def expand (p : Params) : Pseudo → Instr
  | .encSet f v => .fsetb .enc (encFieldAddr p f) (encFieldMask p f) v
  | .encGet f => .fgetb .enc (encFieldAddr p f) (encFieldMask p f)
  | .monSet f v => .fsetw .mon (symAddr p .monConfig) (monFieldMask p f) v
  | .monGet f => .fgetw .mon (symAddr p .monConfig) (monFieldMask p f)

/-- The short name of an encoder field in the mnemonics of rule R158. -/
def encFieldName : EncField → String
  | .pm => "PM"
  | .hyst => "HYST"
  | .outs => "OUTS"
  | .pwmf => "PWMF"
  | .sf => "SF"
  | .fth => "FTH"
  | .wd => "WD"

/-- The short name of a monitor field in the mnemonics of rule R190. -/
def monFieldName : MonField → String
  | .vr => "VR"
  | .pga => "PGA"
  | .badc => "BADC"
  | .sadc => "SADC"
  | .mode => "MODE"

/-- The mnemonic of a pseudo-instruction (rules R158 and R190). -/
def pseudoMnemonic : Pseudo → String
  | .encSet f _ => "ES" ++ encFieldName f
  | .encGet f => "EG" ++ encFieldName f
  | .monSet f _ => "MS" ++ monFieldName f
  | .monGet f => "MG" ++ monFieldName f

end Sys2Proof.Machine
end

