-- ==== Sys2Proof/Safety.lean ====
section
/-! DEFINITION. The terms claims are stated in: what a response, a transaction and a frame are, the machine's invariant,
and which state a later command can depend on. -/

namespace Sys2Proof.Machine

/-! ## Responses and frames -/

/-- The command ended in exactly this response (rules R16 and R78), and the RTB is free again. -/
structure Responded (t : State) (err : Err) (val : U64) : Prop where
  rok : t.rok = true ↔ err = .none
  rerr : t.rerr = err
  rval : t.rval = val
  busy : t.busy = false
  seq : t.seq = .idle

/-- Unchanged: the latches, the handle registers, the direction, the parameters and the host's later commands. No
command's meaning writes them. -/
structure KeepsFixed (s t : State) : Prop where
  cw : t.cw = s.cw
  opa : t.opa = s.opa
  opb : t.opb = s.opb
  encReg : t.encReg = s.encReg
  monReg : t.monReg = s.monReg
  dir : t.dir = s.dir
  cfg : t.cfg = s.cfg
  host : t.host = s.host

/-- Unchanged: the calibration inputs (rules R37 and R38). -/
structure KeepsCalInputs (s t : State) : Prop where
  calv : t.calv = s.calv
  imaxUa : t.imaxUa = s.imaxUa
  rshUohm : t.rshUohm = s.rshUohm

/-- Unchanged: the calibration state (rules R37 to R40). -/
structure KeepsCalibration (s t : State) : Prop extends KeepsCalInputs s t where
  calreg : t.calreg = s.calreg

/-- Unchanged: `TXB`. -/
structure KeepsTx (s t : State) : Prop where
  txb0 : t.txb0 = s.txb0
  txb1 : t.txb1 = s.txb1

/-- Unchanged: `RXB`. -/
structure KeepsRx (s t : State) : Prop where
  rxb0 : t.rxb0 = s.rxb0
  rxb1 : t.rxb1 = s.rxb1

/-- No transaction was made: the bus record, the FSM and the environment's answers are as before. -/
structure NoTransaction (s t : State) : Prop where
  bus : t.bus = s.bus
  tst : t.tst = s.tst
  tcnt : t.tcnt = s.tcnt
  script : t.script = s.script
  drawn : t.drawn = s.drawn

/-- Exactly the transactions `trs` were made, in this order, each taking one answer; the FSM is idle, and `TCNT` is as the
last of them left it. -/
structure Transacted (s t : State) (trs : List Transaction) (tcnt : Nat) : Prop where
  bus : t.bus = s.bus ++ trs
  tst : t.tst = .idle
  tcnt : t.tcnt = tcnt
  script : t.script = s.script.drop trs.length
  drawn : t.drawn = s.drawn + (trs.length - s.script.length)

/-! ## Transactions as the rules give them -/

/-- The `k`-th answer from here makes a `MEM_READ` or `MEM_WRITE` on `h` succeed: its response is there before the
timeout and says `ok` (rules R56, R102 and R103). -/
def Succeeds (s : State) (h : Handle) (k : Nat) : Prop :=
  (s.answerAt k).after < (s.handle h).tmo.toNat ∧ (s.answerAt k).ok = true

/-- As `Succeeds`, for a `READY_CHECK` (rule R106). -/
def ReadySucceeds (s : State) (h : Handle) (k : Nat) : Prop :=
  (s.answerAt k).after < s.cfg.probeTrials * (s.handle h).tmo.toNat ∧ (s.answerAt k).ok = true

/-- `TCNT` after the transaction on `h` that takes the `k`-th answer (rule R102). -/
def Elapsed (s : State) (h : Handle) (k : Nat) : Nat := min (s.answerAt k).after (s.handle h).tmo.toNat

/-- The first byte the `k`-th answer gives a read (rule R104): received, or `draw(8)`. -/
def Byte0 (s : State) (h : Handle) (k : Nat) (b : U8) : Prop :=
  (Succeeds s h k → b = (s.answerAt k).data0) ∧ (¬ Succeeds s h k → b = (s.answerAt k).draw0)

/-- The word the `k`-th answer gives a two-byte read (rules R101 and R104): first byte high; received, or draws. -/
def Word0 (s : State) (h : Handle) (k : Nat) (w : U16) : Prop :=
  (Succeeds s h k → w.toNat = 256 * (s.answerAt k).data0.toNat + (s.answerAt k).data1.toNat) ∧
    (¬ Succeeds s h k → w.toNat = 256 * (s.answerAt k).draw0.toNat + (s.answerAt k).draw1.toNat)

/-- The transaction of a one-byte read of `addr` that takes the `k`-th answer (rules R55, R56, R100 and R104). -/
def IsRead1 (s : State) (h : Handle) (addr : U8) (k : Nat) (tr : Transaction) : Prop :=
  tr.req = ⟨.memRead, (s.handle h).bus, (s.handle h).dev, addr, 1, [], (s.handle h).tmo, 0⟩ ∧
    (Succeeds s h k → tr.rsp = ⟨true, [(s.answerAt k).data0]⟩) ∧ (¬ Succeeds s h k → tr.rsp = ⟨false, []⟩)

/-- The transaction of a two-byte read. -/
def IsRead2 (s : State) (h : Handle) (addr : U8) (k : Nat) (tr : Transaction) : Prop :=
  tr.req = ⟨.memRead, (s.handle h).bus, (s.handle h).dev, addr, 2, [], (s.handle h).tmo, 0⟩ ∧
    (Succeeds s h k → tr.rsp = ⟨true, [(s.answerAt k).data0, (s.answerAt k).data1]⟩) ∧
    (¬ Succeeds s h k → tr.rsp = ⟨false, []⟩)

/-- The transaction of a write of the listed bytes (rules R55, R56, R100 and R105). -/
def IsWrite (s : State) (h : Handle) (addr : U8) (wdata : List U8) (k : Nat) (tr : Transaction) : Prop :=
  tr.req = ⟨.memWrite, (s.handle h).bus, (s.handle h).dev, addr, wdata.length, wdata, (s.handle h).tmo, 0⟩ ∧
    (Succeeds s h k → tr.rsp = ⟨true, []⟩) ∧ (¬ Succeeds s h k → tr.rsp = ⟨false, []⟩)

/-- The transaction of a ready check (rules R55, R56 and R106). -/
def IsReadyCheck (s : State) (h : Handle) (k : Nat) (tr : Transaction) : Prop :=
  tr.req = ⟨.readyCheck, (s.handle h).bus, (s.handle h).dev, 0, 0, [], (s.handle h).tmo, s.cfg.probeTrials⟩ ∧
    (ReadySucceeds s h k → tr.rsp = ⟨true, []⟩) ∧ (¬ ReadySucceeds s h k → tr.rsp = ⟨false, []⟩)

/-- The high byte of a word, `w[15:8]` (rule R12). -/
def hiByte (w : U16) : U8 := BitVec.ofNat 8 (w.toNat / 256)

/-- The low byte of a word, `w[7:0]` (rule R12). -/
def loByte (w : U16) : U8 := BitVec.ofNat 8 w.toNat

/-- `TXB` after a two-byte write of `w` (rule R101). -/
structure SentWord (t : State) (w : U16) : Prop where
  txb0 : t.txb0 = hiByte w
  txb1 : t.txb1 = loByte w

/-- `RXB` after a one-byte read that took the `k`-th answer (rule R104): one byte stored on success; unspecified after
a failure (rule R28). -/
def Received1 (s t : State) (h : Handle) (k : Nat) : Prop :=
  Succeeds s h k → t.rxb0 = (s.answerAt k).data0 ∧ t.rxb1 = s.rxb1

/-- `RXB` after a two-byte read that took the `k`-th answer. -/
def Received2 (s t : State) (h : Handle) (k : Nat) : Prop :=
  Succeeds s h k → t.rxb0 = (s.answerAt k).data0 ∧ t.rxb1 = (s.answerAt k).data1

/-! ## Commands as the host presents them -/

/-- The RTB is free and the host presents `c` (rule R76). -/
def Presents (s : State) (c : Command) : Prop := s.busy = false ∧ s.host.head? = some c

/-- What acceptance alone does (rule R76): the latches hold the command, and it is no longer presented. -/
structure Accepted (s t : State) (c : Command) : Prop where
  cw : t.cw = c.cw
  opa : t.opa = c.opa
  opb : t.opb = c.opb
  host : t.host = s.host.drop 1

/-- Unchanged: every register but the latches, the response, `BUSY` and `SEQ`, and the bus port with them. -/
structure KeepsRest (s t : State) : Prop extends
    KeepsCalibration s t, KeepsTx s t, KeepsRx s t, NoTransaction s t where
  encReg : t.encReg = s.encReg
  monReg : t.monReg = s.monReg
  dir : t.dir = s.dir
  cfg : t.cfg = s.cfg

/-- A presented `c` is answered with `(0, ILLEGAL, 0)`, no transaction and no other change (rules R85 and R198). -/
def AnsweredIllegal (c : Command) : Prop :=
  ∀ s, Presents s c → ∃ t, step s = .next t ∧ Responded t .illegal 0 ∧ Accepted s t c ∧ KeepsRest s t

/-- The row of the opcode map (rules R77, R81 to R85): for every command with opcode `op`, if the bits of `cw` under `mask`
are `op` and the operands fit in `opaBits` and `opbBits` bits, the command decodes to `build`; otherwise it is
answered with `ILLEGAL`. -/
def RowReadsAs (op mask : U32) (opaBits opbBits : Nat) (build : Command → Instr) : Prop :=
  ∀ c : Command, c.cw &&& 0xFF = op →
    (c.cw &&& mask = op ∧ c.opa.toNat < 2 ^ opaBits ∧ c.opb.toNat < 2 ^ opbBits → decode c = .ok (build c)) ∧
      (¬ (c.cw &&& mask = op ∧ c.opa.toNat < 2 ^ opaBits ∧ c.opb.toNat < 2 ^ opbBits) → AnsweredIllegal c)

/-- The handle that `cw[8]` selects (rule R77). -/
def handleBit (c : Command) : Handle := if c.cw.getLsbD 8 then .mon else .enc

/-- `cw[23:16]` (rule R77). -/
def addrBits (c : Command) : U8 := BitVec.ofNat 8 (c.cw.toNat / 2 ^ 16)

/-- `cw[9]` (rule R77). -/
def flagBit (c : Command) : Bool := c.cw.getLsbD 9

/-- `v[7:0]` of an operand. -/
def low8 (v : U32) : U8 := BitVec.ofNat 8 v.toNat

/-- `v[15:0]` of an operand. -/
def low16 (v : U32) : U16 := BitVec.ofNat 16 v.toNat

/-! ## The invariant -/

/-- The RTB between commands: not busy, the FSM and the sequencer idle (rules R29, R41 and R43). -/
structure Quiet (s : State) : Prop where
  busy : s.busy = false
  tst : s.tst = .idle
  seq : s.seq = .idle

/-- The handle registers and the direction are those reset loads from the parameters (rules R33 to R36 and R220). -/
structure HandlesLoaded (s : State) : Prop where
  encReg : s.encReg = HandleRegs.load s.cfg.busEnc s.cfg.addr7Enc s.cfg.timeoutEnc
  monReg : s.monReg = HandleRegs.load s.cfg.busMon s.cfg.addr7Mon s.cfg.timeoutMon
  dir : s.dir = s.cfg.dir

/-- With `CALV` = 1 the stored calibration lies in the domain of `calval` and `CALREG` is its value (rules R37 to R40). -/
def CalibrationSound (s : State) : Prop :=
  s.calv = true → calDefined s.imaxUa s.rshUohm = true ∧ s.calreg = calval s.imaxUa s.rshUohm

/-- The invariant of the machine at command boundaries. -/
structure MachineInv (s : State) : Prop where
  quiet : Quiet s
  handles : HandlesLoaded s
  calibration : CalibrationSound s

/-! ## What a later command can depend on -/

/-- Two states agree on everything a command can read: they may differ in the latches, the response, `TXB`, `RXB`,
`CALREG`, `TST`, `TCNT` and `SEQ` (rules R26 to R28, R31, R40 to R43 and R46). -/
structure AgreeOnRead (s t : State) : Prop where
  busy : s.busy = t.busy
  encReg : s.encReg = t.encReg
  monReg : s.monReg = t.monReg
  dir : s.dir = t.dir
  calv : s.calv = t.calv
  imaxUa : s.imaxUa = t.imaxUa
  rshUohm : s.rshUohm = t.rshUohm
  cfg : s.cfg = t.cfg
  bus : s.bus = t.bus
  host : s.host = t.host
  script : s.script = t.script
  drawn : s.drawn = t.drawn

/-- Two states hold the same response. -/
structure SameResponse (s t : State) : Prop where
  rok : s.rok = t.rok
  rerr : s.rerr = t.rerr
  rval : s.rval = t.rval

/-- Two outcomes of a step that nothing unreadable tells apart: the same refusal, or next states that agree on what can be
read and, where a command was carried out, on the response. -/
def OutcomesAgree (accepted : Prop) : Host.Outcome State Fault Refusal → Host.Outcome State Fault Refusal → Prop
  | .next t₁, .next t₂ => AgreeOnRead t₁ t₂ ∧ (accepted → SameResponse t₁ t₂)
  | .refused r₁, .refused r₂ => r₁ = r₂
  | .fault f₁, .fault f₂ => f₁ = f₂
  | _, _ => False

/-- The getter commands of rule R200. -/
def IsGetter : Instr → Prop
  | .fgetb _ _ _ | .fgetw _ _ _ => True
  | .egraw | .egang | .egreal _ | .emdet | .emstr | .emweak => True
  | .mgrbus | .mgrshv | .mgrcur | .mgrpwr | .mgbusv | .mgshv | .mgcur | .mgpwr => True
  | .rdb _ _ | .wrb _ _ _ | .rdw _ _ | .wrw _ _ _ | .probe _ => False
  | .mskb _ _ _ | .mskw _ _ _ | .cmpw _ _ | .splw _ => False
  | .fsetb _ _ _ _ | .fsetw _ _ _ _ | .setcfg _ _ => False
  | .eszpos _ | .esmpos _ | .esmang _ | .mcal _ _ | .mrst => False

/-- The calibration a command uses is outside the spec (U6 and U7): the stored one for `MGCUR` and `MGPWR`, the operands'
for `MCAL`. -/
def OutsideCalibration : Instr → State → Prop
  | .mgcur, s | .mgpwr, s => s.calv = false ∨ calDefined s.imaxUa s.rshUohm = false
  | .mcal imaxUa rshUohm, _ => calDefined imaxUa rshUohm = false
  | .rdb _ _, _ | .wrb _ _ _, _ | .rdw _ _, _ | .wrw _ _ _, _ | .probe _, _ => False
  | .mskb _ _ _, _ | .mskw _ _ _, _ | .cmpw _ _, _ | .splw _, _ => False
  | .fgetb _ _ _, _ | .fsetb _ _ _ _, _ | .fgetw _ _ _, _ | .fsetw _ _ _ _, _ | .setcfg _ _, _ => False
  | .egraw, _ | .egang, _ | .egreal _, _ | .eszpos _, _ | .esmpos _, _ | .esmang _, _ => False
  | .emdet, _ | .emstr, _ | .emweak, _ => False
  | .mgrbus, _ | .mgrshv, _ | .mgrcur, _ | .mgrpwr, _ | .mgbusv, _ | .mgshv, _ | .mrst, _ => False

end Sys2Proof.Machine
end

