-- ==== Sys2Proof/Certificates/Slice0/Obligations.lean ====
section
/-! DEFINITION. The statements for the provers. The terms they use (`Responded`, `Transacted`, `KeepsFixed`, `RowReadsAs`, ...)
are in `Sys2Proof/Safety.lean`; arithmetic is written out from the rules, not through the model's own functions,
wherever a rule gives a formula. -/

section

open Sys2Proof Sys2Proof.Machine

/-! ## Encoding -/

/-- The encoder's triple for an instruction is legal and decodes to that instruction, with every operand at every value
(rules R77, R82, R83 and R84). -/
def Obligations.DecodeOfEncodeIsTheInstruction : Prop :=
  ∀ i : Instr, (encode i).wf = true ∧ decode (encode i) = .ok i

/-- No bit of a decoded triple is dropped: encoding what was decoded gives the triple back (rules R77, R84 and R85). -/
def Obligations.EncodeOfDecodeIsTheCommand : Prop :=
  ∀ (c : Command) (i : Instr), decode c = .ok i → encode i = c

/-- The decoder accepts exactly the legal triples, and of an illegal one it names the first check of rule R84 that fails. -/
def Obligations.DecoderNamesTheFirstFailingCheck : Prop :=
  ∀ c : Command,
    ((∃ i, decode c = .ok i) ↔ c.wf = true) ∧
    (decode c = .error .unknownOpcode ↔ c.row? = none) ∧
    ∀ r, c.row? = some r →
      (decode c = .error .reservedCw ↔ r.format.reservedZero c.cw = false) ∧
      (decode c = .error .reservedOpa ↔ r.format.reservedZero c.cw = true ∧ operandFits r.opaBits c.opa = false) ∧
      (decode c = .error .reservedOpb ↔
        r.format.reservedZero c.cw = true ∧ operandFits r.opaBits c.opa = true ∧ operandFits r.opbBits c.opb = false)

/-- Words written out from the encoding of rules R77 and R83 (the vectors V-D1, V-D7, V-D11, V-D22, V-S4, V-D43, V-D58 and V-D67 of
`95_test_vectors.md`) decode to the commands they stand for. -/
def Obligations.WordsWrittenOutDecode : Prop :=
  decode ⟨0x000B0001, 0, 0⟩ = .ok (.rdb .enc 0x0B) ∧
  decode ⟨0x00050104, 0x1062, 0⟩ = .ok (.wrw .mon 0x05 0x1062) ∧
  decode ⟨0x00000210, 0xB7, 0x0C⟩ = .ok (.mskb 0xB7 0x0C true) ∧
  decode ⟨0x00080021, 0x0C, 0x08⟩ = .ok (.fsetb .enc 0x08 0x0C 0x08) ∧
  decode ⟨0x00000232, 0, 0⟩ = .ok (.egreal .rad) ∧
  decode ⟨0x00000035, 0xFFFF, 0⟩ = .ok (.esmang 0xFFFF) ∧
  decode ⟨0x00000048, 0x0030D400, 0x000186A0⟩ = .ok (.mcal 3200000 100000) ∧
  decode ⟨0x00000144, 0, 0⟩ = .error .reservedCw

/-! ## The step -/

/-- When the RTB is free and the host presents a triple that decodes to `i`, the step is `exec i` at the state in which the
triple is latched, `BUSY` is 1, the sequencer has started, and nothing else has changed (rules R76 and R84). -/
def Obligations.StepRunsTheDecodedCommand : Prop :=
  ∀ (s : State) (c : Command) (i : Instr), Presents s c → decode c = .ok i →
    ∃ s', Accepted s s' c ∧ s'.busy = true ∧ s'.seq = .done0 ∧ KeepsRest s s' ∧ SameResponse s' s ∧
      step s = exec i s'

/-- An illegal triple is answered with `(0, ILLEGAL, 0)` and changes nothing but the latches and the response registers
(`BUSY` is set and cleared); and every command can raise it, by a set reserved bit (rule R198). -/
def Obligations.IllegalCommandOnlyAnswersIllegal : Prop :=
  (∀ c : Command, c.wf = false → AnsweredIllegal c) ∧
  ∀ i : Instr, AnsweredIllegal { encode i with cw := (encode i).cw ||| 0x80000000 }

/-- The model's choice (log entries 13 and 7), from rules R76 and R224: a step at `BUSY` = 1 leaves the whole state as it is, so
that a command presented there has no effect and stays presented (log entry 13: a step is a whole command, so no command in
progress goes on), and so does a step with no command presented (log entry 7). -/
def Obligations.BusyOrUnaskedStepChangesNothing : Prop :=
  ∀ s : State, s.busy = true ∨ s.host = [] → step s = .next s

/-- Reset loads the handle registers and `DIR` from the parameters and clears the control state, `State.reset` is that reset
for the chip's parameters (the model's way to leave them open, log entry 1), and no step ever changes a handle register or
`DIR` (rule R220). -/
def Obligations.ResetLoadsTheParametersForGood : Prop :=
  (∀ p : Params,
    (State.resetWith p).encReg = ⟨p.busEnc, p.addr7Enc.setWidth 8 <<< 1, p.timeoutEnc⟩ ∧
    (State.resetWith p).monReg = ⟨p.busMon, p.addr7Mon.setWidth 8 <<< 1, p.timeoutMon⟩ ∧
    (State.resetWith p).dir = p.dir ∧ (State.resetWith p).busy = false ∧ (State.resetWith p).calv = false ∧
    (State.resetWith p).tst = .idle ∧ (State.resetWith p).tcnt = 0 ∧ (State.resetWith p).seq = .idle ∧
    (State.resetWith p).bus = []) ∧
  State.reset = State.resetWith Config.chip ∧
  ∀ s t : State, step s = .next t → t.encReg = s.encReg ∧ t.monReg = s.monReg ∧ t.dir = s.dir

/-- The machine's invariant holds right after reset, whatever the parameters. -/
def Obligations.ResetMeetsTheMachineInvariant : Prop :=
  (∀ p : Params, MachineInv (State.resetWith p)) ∧ MachineInv State.reset

/-- Every step keeps the machine's invariant (the model's own, from the rules R29, R33 to R43 and R220): the RTB is idle between
commands, the handle registers and `DIR` are those of the parameters, and a valid calibration lies in its domain with
`CALREG` its value. -/
def Obligations.StepKeepsTheMachineInvariant : Prop :=
  ∀ s t : State, MachineInv s → step s = .next t → MachineInv t

/-- A step never faults; it is refused exactly when the command's calibration is outside the spec (the model's reading of U6 and
U7, log entries 5 and 6); and every other presented command ends in one response, with `ok` = 1 exactly when `err` = `NONE`. -/
def Obligations.EveryPresentedCommandEndsInOneResponse : Prop :=
  (∀ (s : State) (f : Fault), step s ≠ .fault f) ∧
  (∀ s : State, (∃ r, step s = .refused r) ↔
    ∃ c i, Presents s c ∧ decode c = .ok i ∧ OutsideCalibration i s) ∧
  ∀ (s : State) (c : Command), Presents s c → (¬ ∃ i, decode c = .ok i ∧ OutsideCalibration i s) →
    ∃ t e v, step s = .next t ∧ Responded t e v ∧ Accepted s t c

/-- A step appends at most two transactions to the order in which they were made, each carrying the bus, address and timeout of
its handle unchanged, with at most two data bytes, and with bytes received only for a successful read (rules R43, R56, R61,
R66 and R100). -/
def Obligations.StepAppendsAtMostTwoTransactions : Prop :=
  ∀ s t : State, step s = .next t →
    ∃ trs, t.bus = s.bus ++ trs ∧ trs.length ≤ 2 ∧
      ∀ tr ∈ trs,
        (∃ h, tr.req.bus = (s.handle h).bus ∧ tr.req.dev = (s.handle h).dev ∧ tr.req.time = (s.handle h).tmo) ∧
        tr.req.n ≤ 2 ∧ (tr.req.kind = .memWrite → tr.req.wdata.length = tr.req.n) ∧
        (tr.req.kind ≠ .memWrite → tr.req.wdata = []) ∧
        (tr.rsp.ok = true → tr.req.kind = .memRead → tr.rsp.rdata.length = tr.req.n) ∧
        (¬ (tr.rsp.ok = true ∧ tr.req.kind = .memRead) → tr.rsp.rdata = [])

/-- Only `MCAL` writes `CALV`, `IMAX_UA` and `RSH_UOHM`; only `MCAL`, `MGCUR` and `MGPWR` write `CALREG` (rules R37, R38 and R40). -/
def Obligations.OnlyCalibrationCommandsWriteCalibration : Prop :=
  ∀ (i : Instr) (s t : State), exec i s = .next t →
    ((∀ a b, i ≠ .mcal a b) → KeepsCalInputs s t) ∧
    ((∀ a b, i ≠ .mcal a b) → i ≠ .mgcur → i ≠ .mgpwr → t.calreg = s.calreg)

/-- What a command does and answers depends on nothing an earlier command left in the latches, the response registers, `TXB`,
`RXB`, `CALREG`, `TST`, `TCNT` or `SEQ` (rules R31 and R46): from two states that agree on the rest, a step gives agreeing
outcomes. -/
def Obligations.StaleStateReachesNoOutcome : Prop :=
  ∀ s₁ s₂ : State, AgreeOnRead s₁ s₂ →
    OutcomesAgree (s₁.busy = false ∧ s₁.host ≠ []) (step s₁) (step s₂)

/-- The loop of rule R102, run for `limit` time units, ends idle, with the response taken at its time unit or timed out at the
limit, exactly as `Xact` of the model says; until then it waits. `after` is the environment's choice, so a response in the unit
in which `TCNT` reaches the limit may be taken or lost (U8; log entry 10). -/
def Obligations.FsmLoopEndsAsXactSays : Prop :=
  (∀ (s : State) (req : BusRequest) (limit : Nat), 1 ≤ limit →
    ∃ fin rsp, fin = fsmIter limit s.answer.after limit fsmStart ∧
      (s.xact req limit).tst = fin.tst ∧ (s.xact req limit).tcnt = fin.tcnt ∧
      (s.xact req limit).bus = s.bus ++ [⟨req, rsp⟩] ∧
      (fin.result = .taken ∨ fin.result = .timedOut) ∧
      (fin.result = .taken → rsp.ok = s.answer.ok) ∧ (fin.result = .timedOut → rsp = ⟨false, []⟩)) ∧
  ∀ (a : Answer) (limit : Nat), 1 ≤ limit →
    (fsmIter limit a.after limit fsmStart =
      ⟨.idle, a.elapsed limit, if a.arrives limit then .taken else .timedOut⟩) ∧
    (a.arrives limit = true ↔ a.after < limit) ∧ (a.elapsed limit = min a.after limit) ∧
    (∀ k, k ≤ a.after → k < limit → fsmIter limit a.after k fsmStart = ⟨.wait, k, .pending⟩) ∧
    (∀ k, limit ≤ k → fsmIter limit a.after k fsmStart = fsmIter limit a.after limit fsmStart)

/-! ## Transport -/

/-- `RDB` (rule R110). `TCNT` is as the transaction left it: the model's reading of "no state of the RTB other than `RXB` changes"
as not speaking of the response and the transport's control registers (log entries 24 and 10). -/
def Obligations.RdbReadsOneByteAndReports : Prop :=
  RowReadsAs 0x01 0xFF00FEFF 0 0 (fun c => .rdb (handleBit c) (addrBits c)) ∧
  ∀ (s : State) (h : Handle) (addr : U8), ∃ t tr b, exec (.rdb h addr) s = .next t ∧
    IsRead1 s h addr 0 tr ∧ Transacted s t [tr] (Elapsed s h 0) ∧ Byte0 s h 0 b ∧ Received1 s t h 0 ∧
    (Succeeds s h 0 → Responded t .none (b.setWidth 64)) ∧ (¬ Succeeds s h 0 → Responded t .bus (b.setWidth 64)) ∧
    KeepsFixed s t ∧ KeepsCalibration s t ∧ KeepsTx s t

/-- `WRB` (rule R111). -/
def Obligations.WrbWritesOneByteAndReports : Prop :=
  RowReadsAs 0x02 0xFF00FEFF 8 0 (fun c => .wrb (handleBit c) (addrBits c) (low8 c.opa)) ∧
  ∀ (s : State) (h : Handle) (addr data : U8), ∃ t tr, exec (.wrb h addr data) s = .next t ∧
    IsWrite s h addr [data] 0 tr ∧ Transacted s t [tr] (Elapsed s h 0) ∧ t.txb0 = data ∧ t.txb1 = s.txb1 ∧
    (Succeeds s h 0 → Responded t .none 0) ∧ (¬ Succeeds s h 0 → Responded t .bus 0) ∧
    KeepsFixed s t ∧ KeepsCalibration s t ∧ KeepsRx s t

/-- `RDW` (rule R112): one transaction of two bytes, the first the high one. -/
def Obligations.RdwReadsOneWordAndReports : Prop :=
  RowReadsAs 0x03 0xFF00FEFF 0 0 (fun c => .rdw (handleBit c) (addrBits c)) ∧
  ∀ (s : State) (h : Handle) (addr : U8), ∃ t tr w, exec (.rdw h addr) s = .next t ∧
    IsRead2 s h addr 0 tr ∧ Transacted s t [tr] (Elapsed s h 0) ∧ Word0 s h 0 w ∧ Received2 s t h 0 ∧
    (Succeeds s h 0 → Responded t .none (w.setWidth 64)) ∧ (¬ Succeeds s h 0 → Responded t .bus (w.setWidth 64)) ∧
    KeepsFixed s t ∧ KeepsCalibration s t ∧ KeepsTx s t

/-- `WRW` (rule R113): one transaction of two bytes, high byte first. -/
def Obligations.WrwWritesOneWordAndReports : Prop :=
  RowReadsAs 0x04 0xFF00FEFF 16 0 (fun c => .wrw (handleBit c) (addrBits c) (low16 c.opa)) ∧
  ∀ (s : State) (h : Handle) (addr : U8) (data : U16), ∃ t tr, exec (.wrw h addr data) s = .next t ∧
    IsWrite s h addr [hiByte data, loByte data] 0 tr ∧ Transacted s t [tr] (Elapsed s h 0) ∧ SentWord t data ∧
    (Succeeds s h 0 → Responded t .none 0) ∧ (¬ Succeeds s h 0 → Responded t .bus 0) ∧
    KeepsFixed s t ∧ KeepsCalibration s t ∧ KeepsRx s t

/-- `PROBE` (rule R114): not acknowledged is the result 0, not a failure. -/
def Obligations.ProbeAnswersWhetherAcknowledged : Prop :=
  RowReadsAs 0x05 0xFFFFFEFF 0 0 (fun c => .probe (handleBit c)) ∧
  ∀ (s : State) (h : Handle), ∃ t tr, exec (.probe h) s = .next t ∧
    IsReadyCheck s h 0 tr ∧
    Transacted s t [tr] (min (s.answerAt 0).after (s.cfg.probeTrials * (s.handle h).tmo.toNat)) ∧
    (ReadySucceeds s h 0 → Responded t .none 1) ∧ (¬ ReadySucceeds s h 0 → Responded t .none 0) ∧
    KeepsFixed s t ∧ KeepsCalibration s t ∧ KeepsTx s t ∧ KeepsRx s t

/-! ## Codec -/

/-- `MSKB` (rules R120 and R121). -/
def Obligations.MskbMasksAByte : Prop :=
  RowReadsAs 0x10 0xFFFFFDFF 8 8 (fun c => .mskb (low8 c.opa) (low8 c.opb) (flagBit c)) ∧
  ∀ (s : State) (value mask : U8) (invert : Bool), ∃ t v, exec (.mskb value mask invert) s = .next t ∧
    Responded t .none (v.setWidth 64) ∧ (invert = false → v = value &&& mask) ∧
    (invert = true → v = value &&& ~~~mask) ∧
    KeepsFixed s t ∧ KeepsCalibration s t ∧ KeepsTx s t ∧ KeepsRx s t ∧ NoTransaction s t

/-- `MSKW` (rules R120 and R122). -/
def Obligations.MskwMasksAWord : Prop :=
  RowReadsAs 0x11 0xFFFFFDFF 16 16 (fun c => .mskw (low16 c.opa) (low16 c.opb) (flagBit c)) ∧
  ∀ (s : State) (value mask : U16) (invert : Bool), ∃ t v, exec (.mskw value mask invert) s = .next t ∧
    Responded t .none (v.setWidth 64) ∧ (invert = false → v = value &&& mask) ∧
    (invert = true → v = value &&& ~~~mask) ∧
    KeepsFixed s t ∧ KeepsCalibration s t ∧ KeepsTx s t ∧ KeepsRx s t ∧ NoTransaction s t

/-- `CMPW` (rules R120 and R124). -/
def Obligations.CmpwComposesHighByteFirst : Prop :=
  RowReadsAs 0x12 0xFFFFFFFF 8 8 (fun c => .cmpw (low8 c.opa) (low8 c.opb)) ∧
  ∀ (s : State) (b0 b1 : U8), ∃ t v, exec (.cmpw b0 b1) s = .next t ∧
    Responded t .none v ∧ v.toNat = 256 * b0.toNat + b1.toNat ∧
    KeepsFixed s t ∧ KeepsCalibration s t ∧ KeepsTx s t ∧ KeepsRx s t ∧ NoTransaction s t

/-- `SPLW` (rules R120 and R125): the high byte of the operand in `val[7:0]`, the low byte in `val[15:8]`. -/
def Obligations.SplwPacksTheBytesInTransmissionOrder : Prop :=
  RowReadsAs 0x13 0xFFFFFFFF 16 0 (fun c => .splw (low16 c.opa)) ∧
  ∀ (s : State) (w : U16), ∃ t v, exec (.splw w) s = .next t ∧
    Responded t .none v ∧ v.toNat = 256 * (w.toNat % 256) + w.toNat / 256 ∧
    KeepsFixed s t ∧ KeepsCalibration s t ∧ KeepsTx s t ∧ KeepsRx s t ∧ NoTransaction s t

/-- The laws of the mask functions (rule R123), at both widths. -/
def Obligations.MaskFunctionsPartitionAValue : Prop :=
  (∀ v m b m₂ : U8,
    maskByte v m false ||| maskByte v m true = v ∧ maskByte v m false &&& maskByte v m true = 0 ∧
    (b &&& ~~~m = 0 → maskByte (maskByte v m true ||| b) m false = b) ∧
    (b &&& ~~~m = 0 → m &&& m₂ = 0 → maskByte (maskByte v m true ||| b) m₂ false = maskByte v m₂ false)) ∧
  ∀ v m b m₂ : U16,
    maskWord v m false ||| maskWord v m true = v ∧ maskWord v m false &&& maskWord v m true = 0 ∧
    (b &&& ~~~m = 0 → maskWord (maskWord v m true ||| b) m false = b) ∧
    (b &&& ~~~m = 0 → m &&& m₂ = 0 → maskWord (maskWord v m true ||| b) m₂ false = maskWord v m₂ false)

/-- `word` and `bytes` are inverse (rule R126). -/
def Obligations.WordAndBytesAreInverse : Prop :=
  (∀ w : U16, wordOf (byte0 w) (byte1 w) = w) ∧ ∀ b0 b1 : U8, bytesOf (wordOf b0 b1) = [b0, b1]

/-! ## Field access -/

/-- `FGETB` (rule R127): the in-place value; a failed read is not reported. -/
def Obligations.FgetbReadsAFieldUnreported : Prop :=
  RowReadsAs 0x20 0xFF00FEFF 8 0 (fun c => .fgetb (handleBit c) (addrBits c) (low8 c.opa)) ∧
  ∀ (s : State) (h : Handle) (addr mask : U8), ∃ t tr b, exec (.fgetb h addr mask) s = .next t ∧
    IsRead1 s h addr 0 tr ∧ Transacted s t [tr] (Elapsed s h 0) ∧ Byte0 s h 0 b ∧ Received1 s t h 0 ∧
    Responded t .none ((b &&& mask).setWidth 64) ∧ KeepsFixed s t ∧ KeepsCalibration s t ∧ KeepsTx s t

/-- `FSETB` (rule R128): read, clear the field, OR in the bits as given, write; a failed read ends it without a write. -/
def Obligations.FsetbUpdatesAFieldByReadAndWrite : Prop :=
  RowReadsAs 0x21 0xFF00FEFF 8 8 (fun c => .fsetb (handleBit c) (addrBits c) (low8 c.opa) (low8 c.opb)) ∧
  ∀ (s : State) (h : Handle) (addr mask bits : U8), ∃ t tr₁, exec (.fsetb h addr mask bits) s = .next t ∧
    IsRead1 s h addr 0 tr₁ ∧ Received1 s t h 0 ∧ KeepsFixed s t ∧ KeepsCalibration s t ∧
    (¬ Succeeds s h 0 → Responded t .bus 0 ∧ Transacted s t [tr₁] (Elapsed s h 0) ∧ KeepsTx s t) ∧
    (Succeeds s h 0 → ∃ new tr₂, new = ((s.answerAt 0).data0 &&& ~~~mask) ||| bits ∧
      IsWrite s h addr [new] 1 tr₂ ∧ Transacted s t [tr₁, tr₂] (Elapsed s h 1) ∧ t.txb0 = new ∧ t.txb1 = s.txb1 ∧
      (Succeeds s h 1 → Responded t .none 0) ∧ (¬ Succeeds s h 1 → Responded t .bus 0))

/-- `FGETW` (rule R129). -/
def Obligations.FgetwReadsAFieldUnreported : Prop :=
  RowReadsAs 0x22 0xFF00FEFF 16 0 (fun c => .fgetw (handleBit c) (addrBits c) (low16 c.opa)) ∧
  ∀ (s : State) (h : Handle) (addr : U8) (mask : U16), ∃ t tr w, exec (.fgetw h addr mask) s = .next t ∧
    IsRead2 s h addr 0 tr ∧ Transacted s t [tr] (Elapsed s h 0) ∧ Word0 s h 0 w ∧ Received2 s t h 0 ∧
    Responded t .none ((w &&& mask).setWidth 64) ∧ KeepsFixed s t ∧ KeepsCalibration s t ∧ KeepsTx s t

/-- `FSETW` (rule R130). -/
def Obligations.FsetwUpdatesAFieldByReadAndWrite : Prop :=
  RowReadsAs 0x23 0xFF00FEFF 16 16 (fun c => .fsetw (handleBit c) (addrBits c) (low16 c.opa) (low16 c.opb)) ∧
  ∀ (s : State) (h : Handle) (addr : U8) (mask bits : U16), ∃ t tr₁, exec (.fsetw h addr mask bits) s = .next t ∧
    IsRead2 s h addr 0 tr₁ ∧ Received2 s t h 0 ∧ KeepsFixed s t ∧ KeepsCalibration s t ∧
    (¬ Succeeds s h 0 → Responded t .bus 0 ∧ Transacted s t [tr₁] (Elapsed s h 0) ∧ KeepsTx s t) ∧
    (Succeeds s h 0 → ∃ old new tr₂, Word0 s h 0 old ∧ new = (old &&& ~~~mask) ||| bits ∧
      IsWrite s h addr [hiByte new, loByte new] 1 tr₂ ∧ Transacted s t [tr₁, tr₂] (Elapsed s h 1) ∧ SentWord t new ∧
      (Succeeds s h 1 → Responded t .none 0) ∧ (¬ Succeeds s h 1 → Responded t .bus 0))

/-- `SETCFG` (rule R131): one blind 16-bit write. -/
def Obligations.SetcfgReplacesTheConfiguration : Prop :=
  RowReadsAs 0x24 0xFFFFFEFF 16 0 (fun c => .setcfg (handleBit c) (low16 c.opa)) ∧
  ∀ (s : State) (h : Handle) (value : U16), ∃ t tr, exec (.setcfg h value) s = .next t ∧
    IsWrite s h (if h = .mon then s.cfg.monConfig else s.cfg.encConfHi) [hiByte value, loByte value] 0 tr ∧
    Transacted s t [tr] (Elapsed s h 0) ∧ SentWord t value ∧
    (Succeeds s h 0 → Responded t .none 0) ∧ (¬ Succeeds s h 0 → Responded t .bus 0) ∧
    KeepsFixed s t ∧ KeepsCalibration s t ∧ KeepsRx s t

/-- Sibling preservation (rule R132), under the rule's assumption on the environment: when the register that held `old` at the
setter's read is read back as what the setter's write sent, the field reads as the value written and every disjoint field
as it was. -/
def Obligations.FieldUpdatePreservesSiblings : Prop :=
  (∀ (s t : State) (h : Handle) (a m b old : U8), exec (.fsetb h a m b) s = .next t → t.rok = true →
    (s.answerAt 0).data0 = old → b &&& ~~~m = 0 →
    ∃ tr new, t.bus.getLast? = some tr ∧ tr.req.kind = .memWrite ∧ tr.req.reg = a ∧ tr.req.wdata = [new] ∧
      new = (old &&& ~~~m) ||| b ∧
      ∀ (s₂ : State) (m₂ : U8), Succeeds s₂ h 0 → (s₂.answerAt 0).data0 = new →
        ∃ u v, exec (.fgetb h a m₂) s₂ = .next u ∧ Responded u .none (v.setWidth 64) ∧
          (m₂ = m → v = b) ∧ (m &&& m₂ = 0 → v = old &&& m₂)) ∧
  ∀ (s t : State) (h : Handle) (a : U8) (m b old : U16), exec (.fsetw h a m b) s = .next t → t.rok = true →
    wordOf (s.answerAt 0).data0 (s.answerAt 0).data1 = old → b &&& ~~~m = 0 →
    ∃ tr new, t.bus.getLast? = some tr ∧ tr.req.kind = .memWrite ∧ tr.req.reg = a ∧
      tr.req.wdata = [hiByte new, loByte new] ∧ new = (old &&& ~~~m) ||| b ∧
      ∀ (s₂ : State) (m₂ : U16), Succeeds s₂ h 0 → (s₂.answerAt 0).data0 = hiByte new →
        (s₂.answerAt 0).data1 = loByte new →
        ∃ u v, exec (.fgetw h a m₂) s₂ = .next u ∧ Responded u .none (v.setWidth 64) ∧
          (m₂ = m → v = b) ∧ (m &&& m₂ = 0 → v = old &&& m₂)

/-- Field descriptors (rule R133): the in-place value of an option number lies within the mask and shifts back to it, and every
value within the mask is the in-place value of its shifted number. -/
def Obligations.InPlaceValuesShiftBack : Prop :=
  ∀ w wid off : Nat, 1 ≤ wid → off + wid ≤ w →
    fieldMask w wid off ≠ 0 ∧
    (∀ x < 2 ^ wid, inPlace (fieldMask w wid off) off x &&& ~~~fieldMask w wid off = 0 ∧
      rightAligned (inPlace (fieldMask w wid off) off x) off = x) ∧
    ∀ g : BitVec w, g &&& ~~~fieldMask w wid off = 0 → inPlace (fieldMask w wid off) off (rightAligned g off) = g

/-- The 24 pseudo-instructions stand for one field command each, on the register and mask of their descriptor; and each
descriptor is the row of its field in the tables of rules R158 and R190 (rules R89, R158 and R190). -/
def Obligations.PseudoInstructionsAreFieldCommands : Prop :=
  ∀ p : Params,
    (∀ f v, expand p (.encSet f v) = .fsetb .enc (encFieldAddr p f) (encFieldMask p f) v) ∧
    (∀ f, expand p (.encGet f) = .fgetb .enc (encFieldAddr p f) (encFieldMask p f)) ∧
    (∀ f v, expand p (.monSet f v) = .fsetw .mon p.monConfig (monFieldMask p f) v) ∧
    (∀ f, expand p (.monGet f) = .fgetw .mon p.monConfig (monFieldMask p f)) ∧
    (encFieldAddr p .pm = p.encConfLo ∧ encFieldMask p .pm = 0x03) ∧
    (encFieldAddr p .hyst = p.encConfLo ∧ encFieldMask p .hyst = 0x0C) ∧
    (∀ f d, f = EncField.outs ∧ d = p.encOuts ∨ f = .pwmf ∧ d = p.encPwmf ∨ f = .sf ∧ d = p.encSf ∨
        f = .fth ∧ d = p.encFth ∨ f = .wd ∧ d = p.encWd →
      encFieldMask p f = d.mask ∧ (d.half = .hi → encFieldAddr p f = p.encConfHi) ∧
        (d.half = .lo → encFieldAddr p f = p.encConfLo)) ∧
    (monFieldMask p .vr = p.monVr ∧ monFieldMask p .pga = p.monPga ∧ monFieldMask p .badc = p.monBadc ∧
      monFieldMask p .sadc = p.monSadc ∧ monFieldMask p .mode = p.monMode)

/-- Under admitted parameters (log entry 12) two different fields at one register address have disjoint non-zero masks, whichever
halves they are of, and the monitor's fields are disjoint from the reset bit (rules R158 and R190). -/
def Obligations.FieldsOfOneRegisterAreDisjoint : Prop :=
  ∀ p : Params, p.admitted = true →
    (∀ f g : EncField, f ≠ g → encFieldAddr p f = encFieldAddr p g →
      encFieldMask p f &&& encFieldMask p g = 0) ∧
    (∀ f, encFieldMask p f ≠ 0) ∧
    (∀ f g : MonField, f ≠ g → monFieldMask p f &&& monFieldMask p g = 0) ∧
    ∀ f, monFieldMask p f ≠ 0 ∧ monFieldMask p f &&& p.monCfgRst = 0

/-! ## Encoder -/

/-- Direction correction (rule R140). -/
def Obligations.ReflectionIsTheTwelveBitOnesComplement : Prop :=
  ∀ raw : U16,
    (reflect12 raw).toNat = (0x0FFF + 0x10000 - raw.toNat) % 0x10000 % 0x1000 ∧
    (reflect12 raw).toNat = 0x0FFF - raw.toNat % 0x1000 ∧ reflect12 raw = ~~~raw &&& 0x0FFF ∧
    (reflect12 raw).toNat ≤ 0x0FFF ∧ reflect12 0 = 0x0FFF ∧ reflect12 0x0FFF = 0 ∧
    reflect12 (reflect12 raw) = raw &&& 0x0FFF ∧ dircorr .cw raw = raw ∧ dircorr .ccw raw = reflect12 raw

/-- `EGRAW` (rule R141). -/
def Obligations.EgrawReadsTheRawAngle : Prop :=
  RowReadsAs 0x30 0xFFFFFFFF 0 0 (fun _ => .egraw) ∧
  ∀ s : State, ∃ t tr w v, exec .egraw s = .next t ∧
    IsRead2 s .enc s.cfg.encRawAngle 0 tr ∧ Transacted s t [tr] (Elapsed s .enc 0) ∧ Word0 s .enc 0 w ∧
    Received2 s t .enc 0 ∧ Responded t .none v ∧ (s.dir = .cw → v.toNat = w.toNat) ∧
    (s.dir = .ccw → v.toNat = 0x0FFF - w.toNat % 0x1000) ∧ KeepsFixed s t ∧ KeepsCalibration s t ∧ KeepsTx s t

/-- `EGANG` (rule R142). -/
def Obligations.EgangReadsTheFilteredAngle : Prop :=
  RowReadsAs 0x31 0xFFFFFFFF 0 0 (fun _ => .egang) ∧
  ∀ s : State, ∃ t tr w v, exec .egang s = .next t ∧
    IsRead2 s .enc s.cfg.encAngle 0 tr ∧ Transacted s t [tr] (Elapsed s .enc 0) ∧ Word0 s .enc 0 w ∧
    Received2 s t .enc 0 ∧ Responded t .none v ∧ (s.dir = .cw → v.toNat = w.toNat) ∧
    (s.dir = .ccw → v.toNat = 0x0FFF - w.toNat % 0x1000) ∧ KeepsFixed s t ∧ KeepsCalibration s t ∧ KeepsTx s t

/-- `EGREAL` (rule R143): one read; the corrected filtered angle times 45 for degrees, as it is for radians. -/
def Obligations.EgrealScalesTheCorrectedAngle : Prop :=
  RowReadsAs 0x32 0xFFFFFDFF 0 0 (fun c => .egreal (if flagBit c then .rad else .deg)) ∧
  ∀ (s : State) (unit : AngleUnit), ∃ t tr w a v, exec (.egreal unit) s = .next t ∧
    IsRead2 s .enc s.cfg.encAngle 0 tr ∧ Transacted s t [tr] (Elapsed s .enc 0) ∧ Word0 s .enc 0 w ∧
    Received2 s t .enc 0 ∧ (s.dir = .cw → a = w.toNat) ∧ (s.dir = .ccw → a = 0x0FFF - w.toNat % 0x1000) ∧
    Responded t .none v ∧ (unit = .deg → v.toNat = 45 * a) ∧ (unit = .rad → v.toNat = a) ∧
    KeepsFixed s t ∧ KeepsCalibration s t ∧ KeepsTx s t

/-- The position setters `ESZPOS`, `ESMPOS`, `ESMANG` (rules R144 to R147): above 0x0FFF they answer `RANGE` with no transaction;
otherwise they write the 16-bit register and report. -/
def Obligations.PositionSettersCheckTheRangeFirst : Prop :=
  RowReadsAs 0x33 0xFFFFFFFF 16 0 (fun c => .eszpos (low16 c.opa)) ∧
  RowReadsAs 0x34 0xFFFFFFFF 16 0 (fun c => .esmpos (low16 c.opa)) ∧
  RowReadsAs 0x35 0xFFFFFFFF 16 0 (fun c => .esmang (low16 c.opa)) ∧
  ∀ (s : State) (value : U16) (i : Instr) (reg : U8),
    i = .eszpos value ∧ reg = s.cfg.encZpos ∨ i = .esmpos value ∧ reg = s.cfg.encMpos ∨
      i = .esmang value ∧ reg = s.cfg.encMang →
    ∃ t, exec i s = .next t ∧ KeepsFixed s t ∧ KeepsCalibration s t ∧ KeepsRx s t ∧
      (0x0FFF < value.toNat → Responded t .range 0 ∧ NoTransaction s t ∧ KeepsTx s t) ∧
      (value.toNat ≤ 0x0FFF → ∃ tr, IsWrite s .enc reg [hiByte value, loByte value] 0 tr ∧
        Transacted s t [tr] (Elapsed s .enc 0) ∧ SentWord t value ∧
        (Succeeds s .enc 0 → Responded t .none 0) ∧ (¬ Succeeds s .enc 0 → Responded t .bus 0))

/-- The magnet queries `EMDET`, `EMSTR`, `EMWEAK` (rules R148 to R151): exact equality of the status byte; a failed read is
compared as drawn. -/
def Obligations.MagnetQueriesCompareTheWholeByte : Prop :=
  RowReadsAs 0x36 0xFFFFFFFF 0 0 (fun _ => .emdet) ∧
  RowReadsAs 0x37 0xFFFFFFFF 0 0 (fun _ => .emstr) ∧
  RowReadsAs 0x38 0xFFFFFFFF 0 0 (fun _ => .emweak) ∧
  ∀ (s : State) (i : Instr) (flag : U8),
    i = .emdet ∧ flag = s.cfg.encStMd ∨ i = .emstr ∧ flag = s.cfg.encStMh ∨ i = .emweak ∧ flag = s.cfg.encStMl →
    ∃ t tr b, exec i s = .next t ∧
      IsRead1 s .enc s.cfg.encStatus 0 tr ∧ Transacted s t [tr] (Elapsed s .enc 0) ∧ Byte0 s .enc 0 b ∧
      Received1 s t .enc 0 ∧ (b = flag → Responded t .none 1) ∧ (b ≠ flag → Responded t .none 0) ∧
      KeepsFixed s t ∧ KeepsCalibration s t ∧ KeepsTx s t

/-- Under admitted parameters a status byte in which two of the flags are set answers 0 to every magnet query (rule R148). -/
def Obligations.TwoStatusFlagsAnswerFalse : Prop :=
  ∀ (s : State) (f g : U8), s.cfg.admitted = true → Succeeds s .enc 0 →
    f ∈ [s.cfg.encStMd, s.cfg.encStMl, s.cfg.encStMh] → g ∈ [s.cfg.encStMd, s.cfg.encStMl, s.cfg.encStMh] → f ≠ g →
    (s.answerAt 0).data0 &&& f ≠ 0 → (s.answerAt 0).data0 &&& g ≠ 0 →
    ∀ i : Instr, i = .emdet ∨ i = .emstr ∨ i = .emweak → ∃ t, exec i s = .next t ∧ Responded t .none 0

/-! ## Monitor -/

/-- The bus-voltage count (rule R166): a logical shift. -/
def Obligations.BusVoltageCountDropsThreeBits : Prop :=
  ∀ w : U16, busmv w = 4 * ((w.toNat / 8 : Nat) : Int) ∧ 0 ≤ busmv w ∧ busmv w ≤ 32764

/-- Rounded division (rule R17): the floor formula, and with it the nearest integer to a/b, a tie going up. -/
def Obligations.RoundedDivisionIsNearestTieUp : Prop :=
  ∀ a b : Nat, 0 < b →
    rdiv a b = (2 * a + b) / (2 * b) ∧ 2 * b * rdiv a b ≤ 2 * a + b ∧ 2 * a + b < 2 * b * (rdiv a b + 1)

/-- The calibration value (rule R167): its domain, by the product and by the result, and its value there. -/
def Obligations.CalibrationValueAndItsDomain : Prop :=
  ∀ i r : U32,
    (calDefined i r = true ↔ 20480156252 ≤ i.toNat * r.toNat) ∧
    (calDefined i r = true ↔ 0 < i.toNat * r.toNat ∧
      (2 * 1342177280000000 + i.toNat * r.toNat) / (2 * (i.toNat * r.toNat)) ≤ 0xFFFF) ∧
    (20480156252 ≤ i.toNat * r.toNat →
      (calval i r).toNat = (2 * 1342177280000000 + i.toNat * r.toNat) / (2 * (i.toNat * r.toNat)))

/-- `MGRBUS` (rule R170): shifted and scaled at the raw level, no overflow test. -/
def Obligations.MgrbusScalesTheBusRegister : Prop :=
  RowReadsAs 0x40 0xFFFFFFFF 0 0 (fun _ => .mgrbus) ∧
  ∀ s : State, ∃ t tr w v, exec .mgrbus s = .next t ∧
    IsRead2 s .mon s.cfg.monBus 0 tr ∧ Transacted s t [tr] (Elapsed s .mon 0) ∧ Word0 s .mon 0 w ∧
    Received2 s t .mon 0 ∧ Responded t .none v ∧ v.toNat = 4 * (w.toNat / 8) ∧
    KeepsFixed s t ∧ KeepsCalibration s t ∧ KeepsTx s t

/-- `MGRSHV`, `MGRCUR`, `MGRPWR` (rules R171 to R173): the register as a signed number, one transaction, no re-calibration and
no need of `CALV` = 1. -/
def Obligations.RawReadsAreSigned : Prop :=
  RowReadsAs 0x41 0xFFFFFFFF 0 0 (fun _ => .mgrshv) ∧
  RowReadsAs 0x42 0xFFFFFFFF 0 0 (fun _ => .mgrcur) ∧
  RowReadsAs 0x43 0xFFFFFFFF 0 0 (fun _ => .mgrpwr) ∧
  ∀ (s : State) (i : Instr) (reg : U8),
    i = .mgrshv ∧ reg = s.cfg.monShunt ∨ i = .mgrcur ∧ reg = s.cfg.monCurrent ∨ i = .mgrpwr ∧ reg = s.cfg.monPower →
    ∃ t tr w v, exec i s = .next t ∧
      IsRead2 s .mon reg 0 tr ∧ Transacted s t [tr] (Elapsed s .mon 0) ∧ Word0 s .mon 0 w ∧
      Received2 s t .mon 0 ∧ Responded t .none v ∧ (w.toNat < 0x8000 → v.toInt = (w.toNat : Int)) ∧
      (0x8000 ≤ w.toNat → v.toInt = (w.toNat : Int) - 0x10000) ∧
      KeepsFixed s t ∧ KeepsCalibration s t ∧ KeepsTx s t

/-- `MGBUSV` (rule R174): the sentinel −100000 exactly when the overflow bit is set, else millivolts. -/
def Obligations.MgbusvTestsTheOverflowBitOnly : Prop :=
  RowReadsAs 0x44 0xFFFFFFFF 0 0 (fun _ => .mgbusv) ∧
  ∀ s : State, ∃ t tr w v, exec .mgbusv s = .next t ∧
    IsRead2 s .mon s.cfg.monBus 0 tr ∧ Transacted s t [tr] (Elapsed s .mon 0) ∧ Word0 s .mon 0 w ∧
    Received2 s t .mon 0 ∧ Responded t .none v ∧ (w &&& s.cfg.monBusOvf ≠ 0 → v.toInt = -100000) ∧
    (w &&& s.cfg.monBusOvf = 0 → v.toInt = 4 * ((w.toNat / 8 : Nat) : Int)) ∧
    KeepsFixed s t ∧ KeepsCalibration s t ∧ KeepsTx s t

/-- `MGSHV` (rule R175): the signed register times 10. -/
def Obligations.MgshvScalesTheShuntRegister : Prop :=
  RowReadsAs 0x45 0xFFFFFFFF 0 0 (fun _ => .mgshv) ∧
  ∀ s : State, ∃ t tr w v, exec .mgshv s = .next t ∧
    IsRead2 s .mon s.cfg.monShunt 0 tr ∧ Transacted s t [tr] (Elapsed s .mon 0) ∧ Word0 s .mon 0 w ∧
    Received2 s t .mon 0 ∧ Responded t .none v ∧ (w.toNat < 0x8000 → v.toInt = 10 * (w.toNat : Int)) ∧
    (0x8000 ≤ w.toNat → v.toInt = 10 * ((w.toNat : Int) - 0x10000)) ∧
    KeepsFixed s t ∧ KeepsCalibration s t ∧ KeepsTx s t

/-- `MGCUR` (rules R168 and R179), where its calibration is valid: the calibration register is recomputed and written, then the
current register is read, whether or not the write succeeded; neither failure is reported. -/
def Obligations.MgcurRecalibratesThenScales : Prop :=
  RowReadsAs 0x46 0xFFFFFFFF 0 0 (fun _ => .mgcur) ∧
  ∀ s : State, s.calv = true → 20480156252 ≤ s.imaxUa.toNat * s.rshUohm.toNat →
    ∃ t tr₁ tr₂ w v, exec .mgcur s = .next t ∧
      t.calreg.toNat = (2 * 1342177280000000 + s.imaxUa.toNat * s.rshUohm.toNat) /
        (2 * (s.imaxUa.toNat * s.rshUohm.toNat)) ∧
      IsWrite s .mon s.cfg.monCalib [hiByte t.calreg, loByte t.calreg] 0 tr₁ ∧
      IsRead2 s .mon s.cfg.monCurrent 1 tr₂ ∧ Transacted s t [tr₁, tr₂] (Elapsed s .mon 1) ∧
      Word0 s .mon 1 w ∧ SentWord t t.calreg ∧ Received2 s t .mon 1 ∧ Responded t .none v ∧
      (w.toNat < 0x8000 → v.toInt = (w.toNat : Int) * (s.imaxUa.toNat : Int)) ∧
      (0x8000 ≤ w.toNat → v.toInt = ((w.toNat : Int) - 0x10000) * (s.imaxUa.toNat : Int)) ∧
      KeepsFixed s t ∧ KeepsCalInputs s t

/-- `MGPWR` (rules R168 and R180), where its calibration is valid: as `MGCUR`, with the power register and the factor 20. -/
def Obligations.MgpwrRecalibratesThenScales : Prop :=
  RowReadsAs 0x47 0xFFFFFFFF 0 0 (fun _ => .mgpwr) ∧
  ∀ s : State, s.calv = true → 20480156252 ≤ s.imaxUa.toNat * s.rshUohm.toNat →
    ∃ t tr₁ tr₂ w v, exec .mgpwr s = .next t ∧
      t.calreg.toNat = (2 * 1342177280000000 + s.imaxUa.toNat * s.rshUohm.toNat) /
        (2 * (s.imaxUa.toNat * s.rshUohm.toNat)) ∧
      IsWrite s .mon s.cfg.monCalib [hiByte t.calreg, loByte t.calreg] 0 tr₁ ∧
      IsRead2 s .mon s.cfg.monPower 1 tr₂ ∧ Transacted s t [tr₁, tr₂] (Elapsed s .mon 1) ∧
      Word0 s .mon 1 w ∧ SentWord t t.calreg ∧ Received2 s t .mon 1 ∧ Responded t .none v ∧
      (w.toNat < 0x8000 → v.toInt = (w.toNat : Int) * 20 * (s.imaxUa.toNat : Int)) ∧
      (0x8000 ≤ w.toNat → v.toInt = ((w.toNat : Int) - 0x10000) * 20 * (s.imaxUa.toNat : Int)) ∧
      KeepsFixed s t ∧ KeepsCalInputs s t

/-- `MCAL` (rules R168 and R181), in the domain of `calval`: the calibration state is updated whether or not the one write
succeeds, and the response is `(1, NONE, 0)`. -/
def Obligations.McalStoresAndSendsTheCalibration : Prop :=
  RowReadsAs 0x48 0xFFFFFFFF 32 32 (fun c => .mcal c.opa c.opb) ∧
  ∀ (s : State) (i r : U32), 20480156252 ≤ i.toNat * r.toNat →
    ∃ t tr, exec (.mcal i r) s = .next t ∧ t.imaxUa = i ∧ t.rshUohm = r ∧ t.calv = true ∧
      t.calreg.toNat = (2 * 1342177280000000 + i.toNat * r.toNat) / (2 * (i.toNat * r.toNat)) ∧
      IsWrite s .mon s.cfg.monCalib [hiByte t.calreg, loByte t.calreg] 0 tr ∧
      Transacted s t [tr] (Elapsed s .mon 0) ∧ SentWord t t.calreg ∧ Responded t .none 0 ∧
      t.curLsb.toNat = i.toNat ∧ t.pwrLsb.toNat = 20 * i.toNat ∧ KeepsFixed s t ∧ KeepsRx s t

/-- `MRST` (rule R182): one blind write of exactly the reset bit; the calibration state is kept. `TXB` holds the bytes sent, by
rule R105 and program P3 of `95_test_vectors.md` (log entry 24: the model's reading of "changes no state"). -/
def Obligations.MrstWritesTheResetBit : Prop :=
  RowReadsAs 0x49 0xFFFFFFFF 0 0 (fun _ => .mrst) ∧
  ∀ s : State, ∃ t tr, exec .mrst s = .next t ∧
    IsWrite s .mon s.cfg.monConfig [hiByte s.cfg.monCfgRst, loByte s.cfg.monCfgRst] 0 tr ∧
    Transacted s t [tr] (Elapsed s .mon 0) ∧ SentWord t s.cfg.monCfgRst ∧
    (Succeeds s .mon 0 → Responded t .none 0) ∧ (¬ Succeeds s .mon 0 → Responded t .bus 0) ∧
    KeepsFixed s t ∧ KeepsCalibration s t ∧ KeepsRx s t

/-- Where a calibration is outside the spec the model refuses by name (the treatment `refuse` of U6 and U7 of
`93_implementation_defined.md`; log entries 5, 6 and 20). -/
def Obligations.CalibrationOutsideTheSpecIsRefused : Prop :=
  (∀ s : State, s.calv = false →
    exec .mgcur s = .refused .calibrationNotValid ∧ exec .mgpwr s = .refused .calibrationNotValid) ∧
  (∀ (s : State) (i r : U32), i.toNat * r.toNat < 20480156252 →
    exec (.mcal i r) s = .refused .calibrationOutsideDomain) ∧
  ∀ s : State, s.calv = true → s.imaxUa.toNat * s.rshUohm.toNat < 20480156252 →
    exec .mgcur s = .refused .calibrationOutsideDomain ∧ exec .mgpwr s = .refused .calibrationOutsideDomain

/-- The counts times their LSB are the source's formulas, each in the unit of its row (rule R80). Radians are multiples of π, and
no other unit is. -/
def Obligations.CountsTimesLsbAreTheSourceFormulas : Prop :=
  (∀ a : U16, physicalValue (.egreal .deg) (u64 (angleCount .deg a)) = some ((a.toNat : ℚ) * 360 / 4096)) ∧
  (∀ a : U16, physicalValue (.egreal .rad) (u64 (angleCount .rad a)) = some ((a.toNat : ℚ) * 2 / 4096)) ∧
  (∀ (i : Instr) (u : PhysUnit) (pi : Bool),
    i = .egreal .deg ∧ u = .degree ∧ pi = false ∨ i = .egreal .rad ∧ u = .radian ∧ pi = true ∨
      i = .mgbusv ∧ u = .millivolt ∧ pi = false ∨ i = .mgshv ∧ u = .microvolt ∧ pi = false ∨
      i = .mgcur ∧ u = .microampere ∧ pi = false ∨ i = .mgpwr ∧ u = .microwatt ∧ pi = false →
    ∃ l, lsb i = some l ∧ l.unit = u ∧ l.timesPi = pi) ∧
  (∀ ovf w : U16, w &&& ovf = 0 →
    physicalValue .mgbusv (u64 (busVoltage ovf w)) = some (((w.toNat / 8 : Nat) : ℚ) * 4)) ∧
  (∀ ovf w : U16, w &&& ovf ≠ 0 → physicalValue .mgbusv (u64 (busVoltage ovf w)) = some (-100 * 1000)) ∧
  (∀ w : U16, physicalValue .mgshv (u64 (s16 w * 10)) = some ((s16 w : ℚ) * 10)) ∧
  (∀ (s : State) (w : U16), physicalValue .mgcur (u64 (s16 w * (s.curLsb.toNat : Int))) =
    some ((s16 w : ℚ) * ((s.imaxUa.toNat : ℚ) / 32768))) ∧
  ∀ (s : State) (w : U16), physicalValue .mgpwr (u64 (s16 w * (s.pwrLsb.toNat : Int))) =
    some ((s16 w : ℚ) * (20 * ((s.imaxUa.toNat : ℚ) / 32768)))

/-- Getters do not report bus failures (rule R200): each responds `(1, NONE, value)` whatever the outcome of its read
(`MGCUR` and `MGPWR` where their calibration is valid). -/
def Obligations.GettersNeverReportABusFailure : Prop :=
  ∀ (i : Instr) (s : State), IsGetter i → ¬ OutsideCalibration i s →
    ∃ t v, exec i s = .next t ∧ Responded t .none v

end
end

