-- ==== Sys2Proof/Laws/Encoding.lean ====
section
/-! SUPPORT. The fields of a packed command word (rule R77), and the legality of what the encoder writes (rule R85). -/

namespace Sys2Proof

variable (op : U8) (h f : Bool) (addr : U8)

@[simp] theorem packCw_op : (packCw op h f addr).extractLsb' 0 8 = op := by
  apply BitVec.eq_of_getLsbD_eq
  intro i hi
  simp [packCw, hi, show i < 9 by omega, show i < 16 by omega, show i < 32 by omega]

@[simp] theorem packCw_getLsbD_eight : (packCw op h f addr).getLsbD 8 = h := by simp [packCw]

@[simp] theorem packCw_getLsbD_nine : (packCw op h f addr).getLsbD 9 = f := by simp [packCw]

@[simp] theorem packCw_addr : (packCw op h f addr).extractLsb' 16 8 = addr := by
  apply BitVec.eq_of_getLsbD_eq
  intro i hi
  simp [packCw, hi, show ¬ (16 + i < 8) by omega, show ¬ (16 + i < 9) by omega, show 16 + i < 32 by omega,
    BitVec.getLsbD_of_ge op (16 + i) (by omega)]
  rintro (⟨h', -⟩ | ⟨h', -⟩) <;> omega

@[simp] theorem packCw_reserved_mid : (packCw op h f addr).extractLsb' 10 6 = 0 := by
  apply BitVec.eq_of_getLsbD_eq
  intro i hi
  simp [packCw, show ¬ (10 + i < 8) by omega, show ¬ (10 + i < 9) by omega, show 10 + i < 32 by omega,
    show 10 + i < 16 by omega, BitVec.getLsbD_of_ge op (10 + i) (by omega)]
  intro _
  constructor <;> intro h' <;> omega

@[simp] theorem packCw_reserved_top : (packCw op h f addr).extractLsb' 24 8 = 0 := by
  apply BitVec.eq_of_getLsbD_eq
  intro i hi
  simp [packCw, show ¬ (24 + i < 8) by omega, show ¬ (24 + i < 9) by omega, show ¬ (24 + i < 16) by omega,
    show 24 + i < 32 by omega, BitVec.getLsbD_of_ge op (24 + i) (by omega),
    BitVec.getLsbD_of_ge addr (24 + i - 16) (by omega)]
  intro _
  constructor <;> intro h' <;> omega

@[simp] theorem packCw_no_handle : (packCw op false f addr).extractLsb' 8 1 = 0 := by
  apply BitVec.eq_of_getLsbD_eq
  intro i hi
  obtain rfl : i = 0 := by omega
  simp [packCw]

@[simp] theorem packCw_no_flag : (packCw op h false addr).extractLsb' 9 1 = 0 := by
  apply BitVec.eq_of_getLsbD_eq
  intro i hi
  obtain rfl : i = 0 := by omega
  simp [packCw]

/-- An operand written from a value of its signature's width has no reserved bit set (rule R82). -/
@[simp] theorem operandFits_setWidth {n : Nat} (v : BitVec n) : operandFits n (v.setWidth 32) = true := by
  have := v.isLt
  simp only [operandFits, BitVec.toNat_setWidth, decide_eq_true_eq]
  exact lt_of_le_of_lt (Nat.mod_le _ _) this

@[simp] theorem operandFits_zero (n : Nat) : operandFits n 0#32 = true := by
  simp [operandFits]

@[simp] theorem operandFits_full (v : U32) : operandFits 32 v = true := by
  simpa [operandFits] using v.isLt

/-- A packed command is legal when its opcode has a row, the row's format has the fields used, and the operands fit. -/
theorem wf_of_row {opa opb : U32} {r : LegalRow} (hr : legalRows.find? (fun r => r.op == op.toNat) = some r)
    (hcw : r.format.reservedZero (packCw op h f addr) = true) (ha : operandFits r.opaBits opa = true)
    (hb : operandFits r.opbBits opb = true) : (Command.mk (packCw op h f addr) opa opb).wf = true := by
  have : (Command.mk (packCw op h f addr) opa opb).row? = some r := by
    simpa only [Command.row?, packCw_op] using hr
  simp [Command.wf, this, hcw, ha, hb]

theorem reservedZero_z : Format.reservedZero .z (packCw op false false 0) = true := by simp [Format.reservedZero]

theorem reservedZero_h : Format.reservedZero .h (packCw op h false 0) = true := by simp [Format.reservedZero]

theorem reservedZero_ha : Format.reservedZero .ha (packCw op h false addr) = true := by simp [Format.reservedZero]

theorem reservedZero_f : Format.reservedZero .f (packCw op false f 0) = true := by simp [Format.reservedZero]

end Sys2Proof
end

