-- ==== Sys2Proof/Laws/State.lean ====
section
/-! SUPPORT. Every field of State after every named update of it, each true by unfolding the update once; later proofs
rewrite with these and unfold no record. -/

namespace Sys2Proof.Machine

variable (s : State)

/-! ### `State.consume` -/

@[simp] theorem State.consume_cw : (s.consume).cw = s.cw := rfl
@[simp] theorem State.consume_opa : (s.consume).opa = s.opa := rfl
@[simp] theorem State.consume_opb : (s.consume).opb = s.opb := rfl
@[simp] theorem State.consume_rok : (s.consume).rok = s.rok := rfl
@[simp] theorem State.consume_rerr : (s.consume).rerr = s.rerr := rfl
@[simp] theorem State.consume_rval : (s.consume).rval = s.rval := rfl
@[simp] theorem State.consume_txb0 : (s.consume).txb0 = s.txb0 := rfl
@[simp] theorem State.consume_txb1 : (s.consume).txb1 = s.txb1 := rfl
@[simp] theorem State.consume_rxb0 : (s.consume).rxb0 = s.rxb0 := rfl
@[simp] theorem State.consume_rxb1 : (s.consume).rxb1 = s.rxb1 := rfl
@[simp] theorem State.consume_busy : (s.consume).busy = s.busy := rfl
@[simp] theorem State.consume_encReg : (s.consume).encReg = s.encReg := rfl
@[simp] theorem State.consume_monReg : (s.consume).monReg = s.monReg := rfl
@[simp] theorem State.consume_dir : (s.consume).dir = s.dir := rfl
@[simp] theorem State.consume_calv : (s.consume).calv = s.calv := rfl
@[simp] theorem State.consume_imaxUa : (s.consume).imaxUa = s.imaxUa := rfl
@[simp] theorem State.consume_rshUohm : (s.consume).rshUohm = s.rshUohm := rfl
@[simp] theorem State.consume_calreg : (s.consume).calreg = s.calreg := rfl
@[simp] theorem State.consume_tst : (s.consume).tst = s.tst := rfl
@[simp] theorem State.consume_tcnt : (s.consume).tcnt = s.tcnt := rfl
@[simp] theorem State.consume_seq : (s.consume).seq = s.seq := rfl
@[simp] theorem State.consume_cfg : (s.consume).cfg = s.cfg := rfl
@[simp] theorem State.consume_bus : (s.consume).bus = s.bus := rfl
@[simp] theorem State.consume_host : (s.consume).host = s.host := rfl
@[simp] theorem State.consume_script : (s.consume).script = s.script.drop 1 := rfl
@[simp] theorem State.consume_drawn : (s.consume).drawn = s.drawn + (1 - s.script.length) := rfl

/-! ### `State.xactBegin` -/

@[simp] theorem State.xactBegin_cw : (s.xactBegin).cw = s.cw := rfl
@[simp] theorem State.xactBegin_opa : (s.xactBegin).opa = s.opa := rfl
@[simp] theorem State.xactBegin_opb : (s.xactBegin).opb = s.opb := rfl
@[simp] theorem State.xactBegin_rok : (s.xactBegin).rok = s.rok := rfl
@[simp] theorem State.xactBegin_rerr : (s.xactBegin).rerr = s.rerr := rfl
@[simp] theorem State.xactBegin_rval : (s.xactBegin).rval = s.rval := rfl
@[simp] theorem State.xactBegin_txb0 : (s.xactBegin).txb0 = s.txb0 := rfl
@[simp] theorem State.xactBegin_txb1 : (s.xactBegin).txb1 = s.txb1 := rfl
@[simp] theorem State.xactBegin_rxb0 : (s.xactBegin).rxb0 = s.rxb0 := rfl
@[simp] theorem State.xactBegin_rxb1 : (s.xactBegin).rxb1 = s.rxb1 := rfl
@[simp] theorem State.xactBegin_busy : (s.xactBegin).busy = s.busy := rfl
@[simp] theorem State.xactBegin_encReg : (s.xactBegin).encReg = s.encReg := rfl
@[simp] theorem State.xactBegin_monReg : (s.xactBegin).monReg = s.monReg := rfl
@[simp] theorem State.xactBegin_dir : (s.xactBegin).dir = s.dir := rfl
@[simp] theorem State.xactBegin_calv : (s.xactBegin).calv = s.calv := rfl
@[simp] theorem State.xactBegin_imaxUa : (s.xactBegin).imaxUa = s.imaxUa := rfl
@[simp] theorem State.xactBegin_rshUohm : (s.xactBegin).rshUohm = s.rshUohm := rfl
@[simp] theorem State.xactBegin_calreg : (s.xactBegin).calreg = s.calreg := rfl
@[simp] theorem State.xactBegin_tst : (s.xactBegin).tst = .wait := rfl
@[simp] theorem State.xactBegin_tcnt : (s.xactBegin).tcnt = 0 := rfl
@[simp] theorem State.xactBegin_seq : (s.xactBegin).seq = s.seq := rfl
@[simp] theorem State.xactBegin_cfg : (s.xactBegin).cfg = s.cfg := rfl
@[simp] theorem State.xactBegin_bus : (s.xactBegin).bus = s.bus := rfl
@[simp] theorem State.xactBegin_host : (s.xactBegin).host = s.host := rfl
@[simp] theorem State.xactBegin_script : (s.xactBegin).script = s.script := rfl
@[simp] theorem State.xactBegin_drawn : (s.xactBegin).drawn = s.drawn := rfl

/-! ### `State.xactEnd` -/

@[simp] theorem State.xactEnd_cw (k : Nat) (tr : Transaction) : (s.xactEnd k tr).cw = s.cw := rfl
@[simp] theorem State.xactEnd_opa (k : Nat) (tr : Transaction) : (s.xactEnd k tr).opa = s.opa := rfl
@[simp] theorem State.xactEnd_opb (k : Nat) (tr : Transaction) : (s.xactEnd k tr).opb = s.opb := rfl
@[simp] theorem State.xactEnd_rok (k : Nat) (tr : Transaction) : (s.xactEnd k tr).rok = s.rok := rfl
@[simp] theorem State.xactEnd_rerr (k : Nat) (tr : Transaction) : (s.xactEnd k tr).rerr = s.rerr := rfl
@[simp] theorem State.xactEnd_rval (k : Nat) (tr : Transaction) : (s.xactEnd k tr).rval = s.rval := rfl
@[simp] theorem State.xactEnd_txb0 (k : Nat) (tr : Transaction) : (s.xactEnd k tr).txb0 = s.txb0 := rfl
@[simp] theorem State.xactEnd_txb1 (k : Nat) (tr : Transaction) : (s.xactEnd k tr).txb1 = s.txb1 := rfl
@[simp] theorem State.xactEnd_rxb0 (k : Nat) (tr : Transaction) : (s.xactEnd k tr).rxb0 = s.rxb0 := rfl
@[simp] theorem State.xactEnd_rxb1 (k : Nat) (tr : Transaction) : (s.xactEnd k tr).rxb1 = s.rxb1 := rfl
@[simp] theorem State.xactEnd_busy (k : Nat) (tr : Transaction) : (s.xactEnd k tr).busy = s.busy := rfl
@[simp] theorem State.xactEnd_encReg (k : Nat) (tr : Transaction) : (s.xactEnd k tr).encReg = s.encReg := rfl
@[simp] theorem State.xactEnd_monReg (k : Nat) (tr : Transaction) : (s.xactEnd k tr).monReg = s.monReg := rfl
@[simp] theorem State.xactEnd_dir (k : Nat) (tr : Transaction) : (s.xactEnd k tr).dir = s.dir := rfl
@[simp] theorem State.xactEnd_calv (k : Nat) (tr : Transaction) : (s.xactEnd k tr).calv = s.calv := rfl
@[simp] theorem State.xactEnd_imaxUa (k : Nat) (tr : Transaction) : (s.xactEnd k tr).imaxUa = s.imaxUa := rfl
@[simp] theorem State.xactEnd_rshUohm (k : Nat) (tr : Transaction) : (s.xactEnd k tr).rshUohm = s.rshUohm := rfl
@[simp] theorem State.xactEnd_calreg (k : Nat) (tr : Transaction) : (s.xactEnd k tr).calreg = s.calreg := rfl
@[simp] theorem State.xactEnd_tst (k : Nat) (tr : Transaction) : (s.xactEnd k tr).tst = .idle := rfl
@[simp] theorem State.xactEnd_tcnt (k : Nat) (tr : Transaction) : (s.xactEnd k tr).tcnt = k := rfl
@[simp] theorem State.xactEnd_seq (k : Nat) (tr : Transaction) : (s.xactEnd k tr).seq = s.seq.advance := rfl
@[simp] theorem State.xactEnd_cfg (k : Nat) (tr : Transaction) : (s.xactEnd k tr).cfg = s.cfg := rfl
@[simp] theorem State.xactEnd_bus (k : Nat) (tr : Transaction) : (s.xactEnd k tr).bus = s.bus ++ [tr] := rfl
@[simp] theorem State.xactEnd_host (k : Nat) (tr : Transaction) : (s.xactEnd k tr).host = s.host := rfl
@[simp] theorem State.xactEnd_script (k : Nat) (tr : Transaction) : (s.xactEnd k tr).script = s.script := rfl
@[simp] theorem State.xactEnd_drawn (k : Nat) (tr : Transaction) : (s.xactEnd k tr).drawn = s.drawn := rfl

/-! ### `State.loadRx` -/

@[simp] theorem State.loadRx_cw (n : Nat) (ok : Bool) (a : Answer) : (s.loadRx n ok a).cw = s.cw := rfl
@[simp] theorem State.loadRx_opa (n : Nat) (ok : Bool) (a : Answer) : (s.loadRx n ok a).opa = s.opa := rfl
@[simp] theorem State.loadRx_opb (n : Nat) (ok : Bool) (a : Answer) : (s.loadRx n ok a).opb = s.opb := rfl
@[simp] theorem State.loadRx_rok (n : Nat) (ok : Bool) (a : Answer) : (s.loadRx n ok a).rok = s.rok := rfl
@[simp] theorem State.loadRx_rerr (n : Nat) (ok : Bool) (a : Answer) : (s.loadRx n ok a).rerr = s.rerr := rfl
@[simp] theorem State.loadRx_rval (n : Nat) (ok : Bool) (a : Answer) : (s.loadRx n ok a).rval = s.rval := rfl
@[simp] theorem State.loadRx_txb0 (n : Nat) (ok : Bool) (a : Answer) : (s.loadRx n ok a).txb0 = s.txb0 := rfl
@[simp] theorem State.loadRx_txb1 (n : Nat) (ok : Bool) (a : Answer) : (s.loadRx n ok a).txb1 = s.txb1 := rfl
@[simp] theorem State.loadRx_rxb0 (n : Nat) (ok : Bool) (a : Answer) : (s.loadRx n ok a).rxb0 = if ok then a.data0 else a.stale0 := rfl
@[simp] theorem State.loadRx_rxb1 (n : Nat) (ok : Bool) (a : Answer) : (s.loadRx n ok a).rxb1 = if ok then (if n = 2 then a.data1 else s.rxb1) else a.stale1 := rfl
@[simp] theorem State.loadRx_busy (n : Nat) (ok : Bool) (a : Answer) : (s.loadRx n ok a).busy = s.busy := rfl
@[simp] theorem State.loadRx_encReg (n : Nat) (ok : Bool) (a : Answer) : (s.loadRx n ok a).encReg = s.encReg := rfl
@[simp] theorem State.loadRx_monReg (n : Nat) (ok : Bool) (a : Answer) : (s.loadRx n ok a).monReg = s.monReg := rfl
@[simp] theorem State.loadRx_dir (n : Nat) (ok : Bool) (a : Answer) : (s.loadRx n ok a).dir = s.dir := rfl
@[simp] theorem State.loadRx_calv (n : Nat) (ok : Bool) (a : Answer) : (s.loadRx n ok a).calv = s.calv := rfl
@[simp] theorem State.loadRx_imaxUa (n : Nat) (ok : Bool) (a : Answer) : (s.loadRx n ok a).imaxUa = s.imaxUa := rfl
@[simp] theorem State.loadRx_rshUohm (n : Nat) (ok : Bool) (a : Answer) : (s.loadRx n ok a).rshUohm = s.rshUohm := rfl
@[simp] theorem State.loadRx_calreg (n : Nat) (ok : Bool) (a : Answer) : (s.loadRx n ok a).calreg = s.calreg := rfl
@[simp] theorem State.loadRx_tst (n : Nat) (ok : Bool) (a : Answer) : (s.loadRx n ok a).tst = s.tst := rfl
@[simp] theorem State.loadRx_tcnt (n : Nat) (ok : Bool) (a : Answer) : (s.loadRx n ok a).tcnt = s.tcnt := rfl
@[simp] theorem State.loadRx_seq (n : Nat) (ok : Bool) (a : Answer) : (s.loadRx n ok a).seq = s.seq := rfl
@[simp] theorem State.loadRx_cfg (n : Nat) (ok : Bool) (a : Answer) : (s.loadRx n ok a).cfg = s.cfg := rfl
@[simp] theorem State.loadRx_bus (n : Nat) (ok : Bool) (a : Answer) : (s.loadRx n ok a).bus = s.bus := rfl
@[simp] theorem State.loadRx_host (n : Nat) (ok : Bool) (a : Answer) : (s.loadRx n ok a).host = s.host := rfl
@[simp] theorem State.loadRx_script (n : Nat) (ok : Bool) (a : Answer) : (s.loadRx n ok a).script = s.script := rfl
@[simp] theorem State.loadRx_drawn (n : Nat) (ok : Bool) (a : Answer) : (s.loadRx n ok a).drawn = s.drawn := rfl

/-! ### `State.loadTx1` -/

@[simp] theorem State.loadTx1_cw (b : U8) : (s.loadTx1 b).cw = s.cw := rfl
@[simp] theorem State.loadTx1_opa (b : U8) : (s.loadTx1 b).opa = s.opa := rfl
@[simp] theorem State.loadTx1_opb (b : U8) : (s.loadTx1 b).opb = s.opb := rfl
@[simp] theorem State.loadTx1_rok (b : U8) : (s.loadTx1 b).rok = s.rok := rfl
@[simp] theorem State.loadTx1_rerr (b : U8) : (s.loadTx1 b).rerr = s.rerr := rfl
@[simp] theorem State.loadTx1_rval (b : U8) : (s.loadTx1 b).rval = s.rval := rfl
@[simp] theorem State.loadTx1_txb0 (b : U8) : (s.loadTx1 b).txb0 = b := rfl
@[simp] theorem State.loadTx1_txb1 (b : U8) : (s.loadTx1 b).txb1 = s.txb1 := rfl
@[simp] theorem State.loadTx1_rxb0 (b : U8) : (s.loadTx1 b).rxb0 = s.rxb0 := rfl
@[simp] theorem State.loadTx1_rxb1 (b : U8) : (s.loadTx1 b).rxb1 = s.rxb1 := rfl
@[simp] theorem State.loadTx1_busy (b : U8) : (s.loadTx1 b).busy = s.busy := rfl
@[simp] theorem State.loadTx1_encReg (b : U8) : (s.loadTx1 b).encReg = s.encReg := rfl
@[simp] theorem State.loadTx1_monReg (b : U8) : (s.loadTx1 b).monReg = s.monReg := rfl
@[simp] theorem State.loadTx1_dir (b : U8) : (s.loadTx1 b).dir = s.dir := rfl
@[simp] theorem State.loadTx1_calv (b : U8) : (s.loadTx1 b).calv = s.calv := rfl
@[simp] theorem State.loadTx1_imaxUa (b : U8) : (s.loadTx1 b).imaxUa = s.imaxUa := rfl
@[simp] theorem State.loadTx1_rshUohm (b : U8) : (s.loadTx1 b).rshUohm = s.rshUohm := rfl
@[simp] theorem State.loadTx1_calreg (b : U8) : (s.loadTx1 b).calreg = s.calreg := rfl
@[simp] theorem State.loadTx1_tst (b : U8) : (s.loadTx1 b).tst = s.tst := rfl
@[simp] theorem State.loadTx1_tcnt (b : U8) : (s.loadTx1 b).tcnt = s.tcnt := rfl
@[simp] theorem State.loadTx1_seq (b : U8) : (s.loadTx1 b).seq = s.seq := rfl
@[simp] theorem State.loadTx1_cfg (b : U8) : (s.loadTx1 b).cfg = s.cfg := rfl
@[simp] theorem State.loadTx1_bus (b : U8) : (s.loadTx1 b).bus = s.bus := rfl
@[simp] theorem State.loadTx1_host (b : U8) : (s.loadTx1 b).host = s.host := rfl
@[simp] theorem State.loadTx1_script (b : U8) : (s.loadTx1 b).script = s.script := rfl
@[simp] theorem State.loadTx1_drawn (b : U8) : (s.loadTx1 b).drawn = s.drawn := rfl

/-! ### `State.loadTx2` -/

@[simp] theorem State.loadTx2_cw (b c : U8) : (s.loadTx2 b c).cw = s.cw := rfl
@[simp] theorem State.loadTx2_opa (b c : U8) : (s.loadTx2 b c).opa = s.opa := rfl
@[simp] theorem State.loadTx2_opb (b c : U8) : (s.loadTx2 b c).opb = s.opb := rfl
@[simp] theorem State.loadTx2_rok (b c : U8) : (s.loadTx2 b c).rok = s.rok := rfl
@[simp] theorem State.loadTx2_rerr (b c : U8) : (s.loadTx2 b c).rerr = s.rerr := rfl
@[simp] theorem State.loadTx2_rval (b c : U8) : (s.loadTx2 b c).rval = s.rval := rfl
@[simp] theorem State.loadTx2_txb0 (b c : U8) : (s.loadTx2 b c).txb0 = b := rfl
@[simp] theorem State.loadTx2_txb1 (b c : U8) : (s.loadTx2 b c).txb1 = c := rfl
@[simp] theorem State.loadTx2_rxb0 (b c : U8) : (s.loadTx2 b c).rxb0 = s.rxb0 := rfl
@[simp] theorem State.loadTx2_rxb1 (b c : U8) : (s.loadTx2 b c).rxb1 = s.rxb1 := rfl
@[simp] theorem State.loadTx2_busy (b c : U8) : (s.loadTx2 b c).busy = s.busy := rfl
@[simp] theorem State.loadTx2_encReg (b c : U8) : (s.loadTx2 b c).encReg = s.encReg := rfl
@[simp] theorem State.loadTx2_monReg (b c : U8) : (s.loadTx2 b c).monReg = s.monReg := rfl
@[simp] theorem State.loadTx2_dir (b c : U8) : (s.loadTx2 b c).dir = s.dir := rfl
@[simp] theorem State.loadTx2_calv (b c : U8) : (s.loadTx2 b c).calv = s.calv := rfl
@[simp] theorem State.loadTx2_imaxUa (b c : U8) : (s.loadTx2 b c).imaxUa = s.imaxUa := rfl
@[simp] theorem State.loadTx2_rshUohm (b c : U8) : (s.loadTx2 b c).rshUohm = s.rshUohm := rfl
@[simp] theorem State.loadTx2_calreg (b c : U8) : (s.loadTx2 b c).calreg = s.calreg := rfl
@[simp] theorem State.loadTx2_tst (b c : U8) : (s.loadTx2 b c).tst = s.tst := rfl
@[simp] theorem State.loadTx2_tcnt (b c : U8) : (s.loadTx2 b c).tcnt = s.tcnt := rfl
@[simp] theorem State.loadTx2_seq (b c : U8) : (s.loadTx2 b c).seq = s.seq := rfl
@[simp] theorem State.loadTx2_cfg (b c : U8) : (s.loadTx2 b c).cfg = s.cfg := rfl
@[simp] theorem State.loadTx2_bus (b c : U8) : (s.loadTx2 b c).bus = s.bus := rfl
@[simp] theorem State.loadTx2_host (b c : U8) : (s.loadTx2 b c).host = s.host := rfl
@[simp] theorem State.loadTx2_script (b c : U8) : (s.loadTx2 b c).script = s.script := rfl
@[simp] theorem State.loadTx2_drawn (b c : U8) : (s.loadTx2 b c).drawn = s.drawn := rfl

/-! ### `State.accept` -/

@[simp] theorem State.accept_cw (c : Command) : (s.accept c).cw = c.cw := rfl
@[simp] theorem State.accept_opa (c : Command) : (s.accept c).opa = c.opa := rfl
@[simp] theorem State.accept_opb (c : Command) : (s.accept c).opb = c.opb := rfl
@[simp] theorem State.accept_rok (c : Command) : (s.accept c).rok = s.rok := rfl
@[simp] theorem State.accept_rerr (c : Command) : (s.accept c).rerr = s.rerr := rfl
@[simp] theorem State.accept_rval (c : Command) : (s.accept c).rval = s.rval := rfl
@[simp] theorem State.accept_txb0 (c : Command) : (s.accept c).txb0 = s.txb0 := rfl
@[simp] theorem State.accept_txb1 (c : Command) : (s.accept c).txb1 = s.txb1 := rfl
@[simp] theorem State.accept_rxb0 (c : Command) : (s.accept c).rxb0 = s.rxb0 := rfl
@[simp] theorem State.accept_rxb1 (c : Command) : (s.accept c).rxb1 = s.rxb1 := rfl
@[simp] theorem State.accept_busy (c : Command) : (s.accept c).busy = true := rfl
@[simp] theorem State.accept_encReg (c : Command) : (s.accept c).encReg = s.encReg := rfl
@[simp] theorem State.accept_monReg (c : Command) : (s.accept c).monReg = s.monReg := rfl
@[simp] theorem State.accept_dir (c : Command) : (s.accept c).dir = s.dir := rfl
@[simp] theorem State.accept_calv (c : Command) : (s.accept c).calv = s.calv := rfl
@[simp] theorem State.accept_imaxUa (c : Command) : (s.accept c).imaxUa = s.imaxUa := rfl
@[simp] theorem State.accept_rshUohm (c : Command) : (s.accept c).rshUohm = s.rshUohm := rfl
@[simp] theorem State.accept_calreg (c : Command) : (s.accept c).calreg = s.calreg := rfl
@[simp] theorem State.accept_tst (c : Command) : (s.accept c).tst = s.tst := rfl
@[simp] theorem State.accept_tcnt (c : Command) : (s.accept c).tcnt = s.tcnt := rfl
@[simp] theorem State.accept_seq (c : Command) : (s.accept c).seq = .done0 := rfl
@[simp] theorem State.accept_cfg (c : Command) : (s.accept c).cfg = s.cfg := rfl
@[simp] theorem State.accept_bus (c : Command) : (s.accept c).bus = s.bus := rfl
@[simp] theorem State.accept_host (c : Command) : (s.accept c).host = s.host := rfl
@[simp] theorem State.accept_script (c : Command) : (s.accept c).script = s.script := rfl
@[simp] theorem State.accept_drawn (c : Command) : (s.accept c).drawn = s.drawn := rfl

/-! ### `State.popHost` -/

@[simp] theorem State.popHost_cw : (s.popHost).cw = s.cw := rfl
@[simp] theorem State.popHost_opa : (s.popHost).opa = s.opa := rfl
@[simp] theorem State.popHost_opb : (s.popHost).opb = s.opb := rfl
@[simp] theorem State.popHost_rok : (s.popHost).rok = s.rok := rfl
@[simp] theorem State.popHost_rerr : (s.popHost).rerr = s.rerr := rfl
@[simp] theorem State.popHost_rval : (s.popHost).rval = s.rval := rfl
@[simp] theorem State.popHost_txb0 : (s.popHost).txb0 = s.txb0 := rfl
@[simp] theorem State.popHost_txb1 : (s.popHost).txb1 = s.txb1 := rfl
@[simp] theorem State.popHost_rxb0 : (s.popHost).rxb0 = s.rxb0 := rfl
@[simp] theorem State.popHost_rxb1 : (s.popHost).rxb1 = s.rxb1 := rfl
@[simp] theorem State.popHost_busy : (s.popHost).busy = s.busy := rfl
@[simp] theorem State.popHost_encReg : (s.popHost).encReg = s.encReg := rfl
@[simp] theorem State.popHost_monReg : (s.popHost).monReg = s.monReg := rfl
@[simp] theorem State.popHost_dir : (s.popHost).dir = s.dir := rfl
@[simp] theorem State.popHost_calv : (s.popHost).calv = s.calv := rfl
@[simp] theorem State.popHost_imaxUa : (s.popHost).imaxUa = s.imaxUa := rfl
@[simp] theorem State.popHost_rshUohm : (s.popHost).rshUohm = s.rshUohm := rfl
@[simp] theorem State.popHost_calreg : (s.popHost).calreg = s.calreg := rfl
@[simp] theorem State.popHost_tst : (s.popHost).tst = s.tst := rfl
@[simp] theorem State.popHost_tcnt : (s.popHost).tcnt = s.tcnt := rfl
@[simp] theorem State.popHost_seq : (s.popHost).seq = s.seq := rfl
@[simp] theorem State.popHost_cfg : (s.popHost).cfg = s.cfg := rfl
@[simp] theorem State.popHost_bus : (s.popHost).bus = s.bus := rfl
@[simp] theorem State.popHost_host : (s.popHost).host = s.host.drop 1 := rfl
@[simp] theorem State.popHost_script : (s.popHost).script = s.script := rfl
@[simp] theorem State.popHost_drawn : (s.popHost).drawn = s.drawn := rfl

/-! ### `State.present` -/

@[simp] theorem State.present_cw (c : Command) : (s.present c).cw = s.cw := rfl
@[simp] theorem State.present_opa (c : Command) : (s.present c).opa = s.opa := rfl
@[simp] theorem State.present_opb (c : Command) : (s.present c).opb = s.opb := rfl
@[simp] theorem State.present_rok (c : Command) : (s.present c).rok = s.rok := rfl
@[simp] theorem State.present_rerr (c : Command) : (s.present c).rerr = s.rerr := rfl
@[simp] theorem State.present_rval (c : Command) : (s.present c).rval = s.rval := rfl
@[simp] theorem State.present_txb0 (c : Command) : (s.present c).txb0 = s.txb0 := rfl
@[simp] theorem State.present_txb1 (c : Command) : (s.present c).txb1 = s.txb1 := rfl
@[simp] theorem State.present_rxb0 (c : Command) : (s.present c).rxb0 = s.rxb0 := rfl
@[simp] theorem State.present_rxb1 (c : Command) : (s.present c).rxb1 = s.rxb1 := rfl
@[simp] theorem State.present_busy (c : Command) : (s.present c).busy = false := rfl
@[simp] theorem State.present_encReg (c : Command) : (s.present c).encReg = s.encReg := rfl
@[simp] theorem State.present_monReg (c : Command) : (s.present c).monReg = s.monReg := rfl
@[simp] theorem State.present_dir (c : Command) : (s.present c).dir = s.dir := rfl
@[simp] theorem State.present_calv (c : Command) : (s.present c).calv = s.calv := rfl
@[simp] theorem State.present_imaxUa (c : Command) : (s.present c).imaxUa = s.imaxUa := rfl
@[simp] theorem State.present_rshUohm (c : Command) : (s.present c).rshUohm = s.rshUohm := rfl
@[simp] theorem State.present_calreg (c : Command) : (s.present c).calreg = s.calreg := rfl
@[simp] theorem State.present_tst (c : Command) : (s.present c).tst = s.tst := rfl
@[simp] theorem State.present_tcnt (c : Command) : (s.present c).tcnt = s.tcnt := rfl
@[simp] theorem State.present_seq (c : Command) : (s.present c).seq = s.seq := rfl
@[simp] theorem State.present_cfg (c : Command) : (s.present c).cfg = s.cfg := rfl
@[simp] theorem State.present_bus (c : Command) : (s.present c).bus = s.bus := rfl
@[simp] theorem State.present_host (c : Command) : (s.present c).host = c :: s.host := rfl
@[simp] theorem State.present_script (c : Command) : (s.present c).script = s.script := rfl
@[simp] theorem State.present_drawn (c : Command) : (s.present c).drawn = s.drawn := rfl

/-! ### `State.respond` -/

@[simp] theorem State.respond_cw (e : Err) (v : U64) : (s.respond e v).cw = s.cw := rfl
@[simp] theorem State.respond_opa (e : Err) (v : U64) : (s.respond e v).opa = s.opa := rfl
@[simp] theorem State.respond_opb (e : Err) (v : U64) : (s.respond e v).opb = s.opb := rfl
@[simp] theorem State.respond_rok (e : Err) (v : U64) : (s.respond e v).rok = decide (e = .none) := rfl
@[simp] theorem State.respond_rerr (e : Err) (v : U64) : (s.respond e v).rerr = e := rfl
@[simp] theorem State.respond_rval (e : Err) (v : U64) : (s.respond e v).rval = v := rfl
@[simp] theorem State.respond_txb0 (e : Err) (v : U64) : (s.respond e v).txb0 = s.txb0 := rfl
@[simp] theorem State.respond_txb1 (e : Err) (v : U64) : (s.respond e v).txb1 = s.txb1 := rfl
@[simp] theorem State.respond_rxb0 (e : Err) (v : U64) : (s.respond e v).rxb0 = s.rxb0 := rfl
@[simp] theorem State.respond_rxb1 (e : Err) (v : U64) : (s.respond e v).rxb1 = s.rxb1 := rfl
@[simp] theorem State.respond_busy (e : Err) (v : U64) : (s.respond e v).busy = false := rfl
@[simp] theorem State.respond_encReg (e : Err) (v : U64) : (s.respond e v).encReg = s.encReg := rfl
@[simp] theorem State.respond_monReg (e : Err) (v : U64) : (s.respond e v).monReg = s.monReg := rfl
@[simp] theorem State.respond_dir (e : Err) (v : U64) : (s.respond e v).dir = s.dir := rfl
@[simp] theorem State.respond_calv (e : Err) (v : U64) : (s.respond e v).calv = s.calv := rfl
@[simp] theorem State.respond_imaxUa (e : Err) (v : U64) : (s.respond e v).imaxUa = s.imaxUa := rfl
@[simp] theorem State.respond_rshUohm (e : Err) (v : U64) : (s.respond e v).rshUohm = s.rshUohm := rfl
@[simp] theorem State.respond_calreg (e : Err) (v : U64) : (s.respond e v).calreg = s.calreg := rfl
@[simp] theorem State.respond_tst (e : Err) (v : U64) : (s.respond e v).tst = s.tst := rfl
@[simp] theorem State.respond_tcnt (e : Err) (v : U64) : (s.respond e v).tcnt = s.tcnt := rfl
@[simp] theorem State.respond_seq (e : Err) (v : U64) : (s.respond e v).seq = .idle := rfl
@[simp] theorem State.respond_cfg (e : Err) (v : U64) : (s.respond e v).cfg = s.cfg := rfl
@[simp] theorem State.respond_bus (e : Err) (v : U64) : (s.respond e v).bus = s.bus := rfl
@[simp] theorem State.respond_host (e : Err) (v : U64) : (s.respond e v).host = s.host := rfl
@[simp] theorem State.respond_script (e : Err) (v : U64) : (s.respond e v).script = s.script := rfl
@[simp] theorem State.respond_drawn (e : Err) (v : U64) : (s.respond e v).drawn = s.drawn := rfl

/-! ### `State.setCalreg` -/

@[simp] theorem State.setCalreg_cw (v : U16) : (s.setCalreg v).cw = s.cw := rfl
@[simp] theorem State.setCalreg_opa (v : U16) : (s.setCalreg v).opa = s.opa := rfl
@[simp] theorem State.setCalreg_opb (v : U16) : (s.setCalreg v).opb = s.opb := rfl
@[simp] theorem State.setCalreg_rok (v : U16) : (s.setCalreg v).rok = s.rok := rfl
@[simp] theorem State.setCalreg_rerr (v : U16) : (s.setCalreg v).rerr = s.rerr := rfl
@[simp] theorem State.setCalreg_rval (v : U16) : (s.setCalreg v).rval = s.rval := rfl
@[simp] theorem State.setCalreg_txb0 (v : U16) : (s.setCalreg v).txb0 = s.txb0 := rfl
@[simp] theorem State.setCalreg_txb1 (v : U16) : (s.setCalreg v).txb1 = s.txb1 := rfl
@[simp] theorem State.setCalreg_rxb0 (v : U16) : (s.setCalreg v).rxb0 = s.rxb0 := rfl
@[simp] theorem State.setCalreg_rxb1 (v : U16) : (s.setCalreg v).rxb1 = s.rxb1 := rfl
@[simp] theorem State.setCalreg_busy (v : U16) : (s.setCalreg v).busy = s.busy := rfl
@[simp] theorem State.setCalreg_encReg (v : U16) : (s.setCalreg v).encReg = s.encReg := rfl
@[simp] theorem State.setCalreg_monReg (v : U16) : (s.setCalreg v).monReg = s.monReg := rfl
@[simp] theorem State.setCalreg_dir (v : U16) : (s.setCalreg v).dir = s.dir := rfl
@[simp] theorem State.setCalreg_calv (v : U16) : (s.setCalreg v).calv = s.calv := rfl
@[simp] theorem State.setCalreg_imaxUa (v : U16) : (s.setCalreg v).imaxUa = s.imaxUa := rfl
@[simp] theorem State.setCalreg_rshUohm (v : U16) : (s.setCalreg v).rshUohm = s.rshUohm := rfl
@[simp] theorem State.setCalreg_calreg (v : U16) : (s.setCalreg v).calreg = v := rfl
@[simp] theorem State.setCalreg_tst (v : U16) : (s.setCalreg v).tst = s.tst := rfl
@[simp] theorem State.setCalreg_tcnt (v : U16) : (s.setCalreg v).tcnt = s.tcnt := rfl
@[simp] theorem State.setCalreg_seq (v : U16) : (s.setCalreg v).seq = s.seq := rfl
@[simp] theorem State.setCalreg_cfg (v : U16) : (s.setCalreg v).cfg = s.cfg := rfl
@[simp] theorem State.setCalreg_bus (v : U16) : (s.setCalreg v).bus = s.bus := rfl
@[simp] theorem State.setCalreg_host (v : U16) : (s.setCalreg v).host = s.host := rfl
@[simp] theorem State.setCalreg_script (v : U16) : (s.setCalreg v).script = s.script := rfl
@[simp] theorem State.setCalreg_drawn (v : U16) : (s.setCalreg v).drawn = s.drawn := rfl

/-! ### `State.setCalibration` -/

@[simp] theorem State.setCalibration_cw (i r : U32) : (s.setCalibration i r).cw = s.cw := rfl
@[simp] theorem State.setCalibration_opa (i r : U32) : (s.setCalibration i r).opa = s.opa := rfl
@[simp] theorem State.setCalibration_opb (i r : U32) : (s.setCalibration i r).opb = s.opb := rfl
@[simp] theorem State.setCalibration_rok (i r : U32) : (s.setCalibration i r).rok = s.rok := rfl
@[simp] theorem State.setCalibration_rerr (i r : U32) : (s.setCalibration i r).rerr = s.rerr := rfl
@[simp] theorem State.setCalibration_rval (i r : U32) : (s.setCalibration i r).rval = s.rval := rfl
@[simp] theorem State.setCalibration_txb0 (i r : U32) : (s.setCalibration i r).txb0 = s.txb0 := rfl
@[simp] theorem State.setCalibration_txb1 (i r : U32) : (s.setCalibration i r).txb1 = s.txb1 := rfl
@[simp] theorem State.setCalibration_rxb0 (i r : U32) : (s.setCalibration i r).rxb0 = s.rxb0 := rfl
@[simp] theorem State.setCalibration_rxb1 (i r : U32) : (s.setCalibration i r).rxb1 = s.rxb1 := rfl
@[simp] theorem State.setCalibration_busy (i r : U32) : (s.setCalibration i r).busy = s.busy := rfl
@[simp] theorem State.setCalibration_encReg (i r : U32) : (s.setCalibration i r).encReg = s.encReg := rfl
@[simp] theorem State.setCalibration_monReg (i r : U32) : (s.setCalibration i r).monReg = s.monReg := rfl
@[simp] theorem State.setCalibration_dir (i r : U32) : (s.setCalibration i r).dir = s.dir := rfl
@[simp] theorem State.setCalibration_calv (i r : U32) : (s.setCalibration i r).calv = true := rfl
@[simp] theorem State.setCalibration_imaxUa (i r : U32) : (s.setCalibration i r).imaxUa = i := rfl
@[simp] theorem State.setCalibration_rshUohm (i r : U32) : (s.setCalibration i r).rshUohm = r := rfl
@[simp] theorem State.setCalibration_calreg (i r : U32) : (s.setCalibration i r).calreg = s.calreg := rfl
@[simp] theorem State.setCalibration_tst (i r : U32) : (s.setCalibration i r).tst = s.tst := rfl
@[simp] theorem State.setCalibration_tcnt (i r : U32) : (s.setCalibration i r).tcnt = s.tcnt := rfl
@[simp] theorem State.setCalibration_seq (i r : U32) : (s.setCalibration i r).seq = s.seq := rfl
@[simp] theorem State.setCalibration_cfg (i r : U32) : (s.setCalibration i r).cfg = s.cfg := rfl
@[simp] theorem State.setCalibration_bus (i r : U32) : (s.setCalibration i r).bus = s.bus := rfl
@[simp] theorem State.setCalibration_host (i r : U32) : (s.setCalibration i r).host = s.host := rfl
@[simp] theorem State.setCalibration_script (i r : U32) : (s.setCalibration i r).script = s.script := rfl
@[simp] theorem State.setCalibration_drawn (i r : U32) : (s.setCalibration i r).drawn = s.drawn := rfl

/-! ### Reset -/

@[simp] theorem State.resetWith_cw (p : Params) : (State.resetWith p).cw = 0 := rfl
@[simp] theorem State.resetWith_opa (p : Params) : (State.resetWith p).opa = 0 := rfl
@[simp] theorem State.resetWith_opb (p : Params) : (State.resetWith p).opb = 0 := rfl
@[simp] theorem State.resetWith_rok (p : Params) : (State.resetWith p).rok = false := rfl
@[simp] theorem State.resetWith_rerr (p : Params) : (State.resetWith p).rerr = .none := rfl
@[simp] theorem State.resetWith_rval (p : Params) : (State.resetWith p).rval = 0 := rfl
@[simp] theorem State.resetWith_txb0 (p : Params) : (State.resetWith p).txb0 = 0 := rfl
@[simp] theorem State.resetWith_txb1 (p : Params) : (State.resetWith p).txb1 = 0 := rfl
@[simp] theorem State.resetWith_rxb0 (p : Params) : (State.resetWith p).rxb0 = 0 := rfl
@[simp] theorem State.resetWith_rxb1 (p : Params) : (State.resetWith p).rxb1 = 0 := rfl
@[simp] theorem State.resetWith_busy (p : Params) : (State.resetWith p).busy = false := rfl
@[simp] theorem State.resetWith_encReg (p : Params) : (State.resetWith p).encReg = HandleRegs.load p.busEnc p.addr7Enc p.timeoutEnc := rfl
@[simp] theorem State.resetWith_monReg (p : Params) : (State.resetWith p).monReg = HandleRegs.load p.busMon p.addr7Mon p.timeoutMon := rfl
@[simp] theorem State.resetWith_dir (p : Params) : (State.resetWith p).dir = p.dir := rfl
@[simp] theorem State.resetWith_calv (p : Params) : (State.resetWith p).calv = false := rfl
@[simp] theorem State.resetWith_imaxUa (p : Params) : (State.resetWith p).imaxUa = 0 := rfl
@[simp] theorem State.resetWith_rshUohm (p : Params) : (State.resetWith p).rshUohm = 0 := rfl
@[simp] theorem State.resetWith_calreg (p : Params) : (State.resetWith p).calreg = 0 := rfl
@[simp] theorem State.resetWith_tst (p : Params) : (State.resetWith p).tst = .idle := rfl
@[simp] theorem State.resetWith_tcnt (p : Params) : (State.resetWith p).tcnt = 0 := rfl
@[simp] theorem State.resetWith_seq (p : Params) : (State.resetWith p).seq = .idle := rfl
@[simp] theorem State.resetWith_cfg (p : Params) : (State.resetWith p).cfg = p := rfl
@[simp] theorem State.resetWith_bus (p : Params) : (State.resetWith p).bus = [] := rfl
@[simp] theorem State.resetWith_host (p : Params) : (State.resetWith p).host = [] := rfl
@[simp] theorem State.resetWith_script (p : Params) : (State.resetWith p).script = [] := rfl
@[simp] theorem State.resetWith_drawn (p : Params) : (State.resetWith p).drawn = 0 := rfl

end Sys2Proof.Machine
end

