-- ==== Sys2Proof/Laws/Ops.lean ====
section
/-! SUPPORT. What the shared operations do: one lemma per field, and for each primitive one lemma that says everything
it does in the terms of `Safety.lean`. -/

namespace Sys2Proof.Machine

variable (s : State)

/-! ### The environment's answers -/

theorem State.answerAt_congr {s t : State} (h₁ : t.script = s.script) (h₂ : t.drawn = s.drawn) (k : Nat) :
    t.answerAt k = s.answerAt k := by
  unfold State.answerAt; rw [h₁, h₂]

/-- After the next answer is used up, the `k`-th answer is the one that was the `k + 1`-th. -/
theorem State.answerAt_of_consumed {s t : State} (h₁ : t.script = s.script.drop 1)
    (h₂ : t.drawn = s.drawn + (1 - s.script.length)) (k : Nat) : t.answerAt k = s.answerAt (k + 1) := by
  unfold State.answerAt
  rw [h₁, h₂, List.drop_drop, Nat.add_comm 1 k, List.length_drop]
  split
  · rfl
  · next h =>
    have hlen : s.script.length ≤ k + 1 := List.drop_eq_nil_iff.mp h
    congr 1
    omega

@[simp] theorem State.handle_enc : s.handle .enc = s.encReg := rfl
@[simp] theorem State.handle_mon : s.handle .mon = s.monReg := rfl

/-- Handle registers depend on the two handle fields alone. -/
theorem State.handle_congr {s t : State} (h₁ : t.encReg = s.encReg) (h₂ : t.monReg = s.monReg) (h : Handle) :
    t.handle h = s.handle h := by
  cases h <;> simp [h₁, h₂]

/-- An answer succeeds on `h` exactly when it arrives in time and says `ok`. -/
theorem Succeeds_iff (h : Handle) (k : Nat) :
    Succeeds s h k ↔ (s.answerAt k).succeeds (s.handle h).tmo.toNat = true := by
  simp [Succeeds, Answer.succeeds, Answer.arrives]

theorem ReadySucceeds_iff (h : Handle) (k : Nat) :
    ReadySucceeds s h k ↔ (s.answerAt k).succeeds (s.readyLimit h) = true := by
  rw [Answer.succeeds, Answer.arrives, Bool.and_eq_true, decide_eq_true_eq]
  rfl

/-! ### `Xact` -/

@[simp] theorem State.xact_cw (q : BusRequest) (l : Nat) : (s.xact q l).cw = s.cw := rfl
@[simp] theorem State.xact_opa (q : BusRequest) (l : Nat) : (s.xact q l).opa = s.opa := rfl
@[simp] theorem State.xact_opb (q : BusRequest) (l : Nat) : (s.xact q l).opb = s.opb := rfl
@[simp] theorem State.xact_rok (q : BusRequest) (l : Nat) : (s.xact q l).rok = s.rok := rfl
@[simp] theorem State.xact_rerr (q : BusRequest) (l : Nat) : (s.xact q l).rerr = s.rerr := rfl
@[simp] theorem State.xact_rval (q : BusRequest) (l : Nat) : (s.xact q l).rval = s.rval := rfl
@[simp] theorem State.xact_txb0 (q : BusRequest) (l : Nat) : (s.xact q l).txb0 = s.txb0 := rfl
@[simp] theorem State.xact_txb1 (q : BusRequest) (l : Nat) : (s.xact q l).txb1 = s.txb1 := rfl
@[simp] theorem State.xact_rxb0 (q : BusRequest) (l : Nat) : (s.xact q l).rxb0 = s.rxb0 := rfl
@[simp] theorem State.xact_rxb1 (q : BusRequest) (l : Nat) : (s.xact q l).rxb1 = s.rxb1 := rfl
@[simp] theorem State.xact_busy (q : BusRequest) (l : Nat) : (s.xact q l).busy = s.busy := rfl
@[simp] theorem State.xact_encReg (q : BusRequest) (l : Nat) : (s.xact q l).encReg = s.encReg := rfl
@[simp] theorem State.xact_monReg (q : BusRequest) (l : Nat) : (s.xact q l).monReg = s.monReg := rfl
@[simp] theorem State.xact_dir (q : BusRequest) (l : Nat) : (s.xact q l).dir = s.dir := rfl
@[simp] theorem State.xact_calv (q : BusRequest) (l : Nat) : (s.xact q l).calv = s.calv := rfl
@[simp] theorem State.xact_imaxUa (q : BusRequest) (l : Nat) : (s.xact q l).imaxUa = s.imaxUa := rfl
@[simp] theorem State.xact_rshUohm (q : BusRequest) (l : Nat) : (s.xact q l).rshUohm = s.rshUohm := rfl
@[simp] theorem State.xact_calreg (q : BusRequest) (l : Nat) : (s.xact q l).calreg = s.calreg := rfl
@[simp] theorem State.xact_tst (q : BusRequest) (l : Nat) : (s.xact q l).tst = .idle := rfl
@[simp] theorem State.xact_tcnt (q : BusRequest) (l : Nat) : (s.xact q l).tcnt = s.answer.elapsed l := rfl
@[simp] theorem State.xact_seq (q : BusRequest) (l : Nat) : (s.xact q l).seq = s.seq.advance := rfl
@[simp] theorem State.xact_cfg (q : BusRequest) (l : Nat) : (s.xact q l).cfg = s.cfg := rfl
@[simp] theorem State.xact_bus (q : BusRequest) (l : Nat) : (s.xact q l).bus = s.bus ++ [⟨q, s.answer.response q l⟩] := rfl
@[simp] theorem State.xact_host (q : BusRequest) (l : Nat) : (s.xact q l).host = s.host := rfl
@[simp] theorem State.xact_script (q : BusRequest) (l : Nat) : (s.xact q l).script = s.script.drop 1 := rfl
@[simp] theorem State.xact_drawn (q : BusRequest) (l : Nat) : (s.xact q l).drawn = s.drawn + (1 - s.script.length) := rfl

/-- A successful transaction's response, and a failed one's. -/
theorem response_of_succeeds {a : Answer} {q : BusRequest} {l : Nat} (h : a.succeeds l = true) :
    a.response q l = ⟨true, if q.kind = .memRead then [a.data0, a.data1].take q.n else []⟩ := by
  simp [Answer.response, h]

theorem response_of_fails {a : Answer} {q : BusRequest} {l : Nat} (h : a.succeeds l = false) :
    a.response q l = ⟨false, []⟩ := by
  simp [Answer.response, h]

/-! ### Words and bytes -/

theorem wordOf_toNat (b0 b1 : U8) : (wordOf b0 b1).toNat = 256 * b0.toNat + b1.toNat := by
  have h0 := b0.isLt
  have h1 := b1.isLt
  have e : b0.toNat <<< 8 % 2 ^ 16 = b0.toNat <<< 8 := by rw [Nat.shiftLeft_eq]; omega
  simp only [wordOf, BitVec.toNat_or, BitVec.toNat_shiftLeft, BitVec.toNat_setWidth]
  rw [Nat.mod_eq_of_lt (by omega : b0.toNat < 2 ^ 16), Nat.mod_eq_of_lt (by omega : b1.toNat < 2 ^ 16), e,
    ← Nat.shiftLeft_add_eq_or_of_lt h1, Nat.shiftLeft_eq]
  omega

theorem byte0_eq_hiByte (w : U16) : byte0 w = hiByte w := by
  apply BitVec.eq_of_toNat_eq
  simp [byte0, hiByte, BitVec.extractLsb'_toNat, Nat.shiftRight_eq_div_pow]

theorem byte1_eq_loByte (w : U16) : byte1 w = loByte w := by
  apply BitVec.eq_of_toNat_eq
  simp [byte1, loByte, BitVec.extractLsb'_toNat]

/-! ### `MemRead` -/

theorem memRead_ok (h : Handle) (addr : U8) (n : Nat) : (memRead h addr n s).ok = true ↔ Succeeds s h 0 := by
  rw [Succeeds_iff]; rfl

theorem memRead_byte0 (h : Handle) (addr : U8) (n : Nat) : Byte0 s h 0 (memRead h addr n s).byte0 := by
  simp only [Byte0, Succeeds_iff]
  constructor <;> intro hs <;> simp_all [memRead, State.memLimit, State.answer]

theorem memRead_word (h : Handle) (addr : U8) (n : Nat) : Word0 s h 0 (memRead h addr n s).word := by
  simp only [Word0, Succeeds_iff, ReadResult.word, wordOf_toNat]
  constructor <;> intro hs <;> simp_all [memRead, State.memLimit, State.answer]

/-- Everything the state after a `MemRead` holds but `RXB`. -/
theorem memRead_frame (h : Handle) (addr : U8) (n : Nat) :
    KeepsFixed s (memRead h addr n s).state ∧ KeepsCalibration s (memRead h addr n s).state ∧
      KeepsTx s (memRead h addr n s).state ∧
      Transacted s (memRead h addr n s).state
        [⟨s.readRequest h addr n, s.answer.response (s.readRequest h addr n) (s.memLimit h)⟩] (Elapsed s h 0) :=
  ⟨⟨rfl, rfl, rfl, rfl, rfl, rfl, rfl, rfl⟩, ⟨⟨rfl, rfl, rfl⟩, rfl⟩, ⟨rfl, rfl⟩, ⟨rfl, rfl, rfl, rfl, rfl⟩⟩

theorem memRead1_received (h : Handle) (addr : U8) : Received1 s (memRead h addr 1 s).state h 0 := by
  intro hs
  rw [Succeeds_iff] at hs
  simp [memRead, State.memLimit, State.answer, hs]

theorem memRead2_received (h : Handle) (addr : U8) : Received2 s (memRead h addr 2 s).state h 0 := by
  intro hs
  rw [Succeeds_iff] at hs
  simp [memRead, State.memLimit, State.answer, hs]

theorem isRead1_xact (h : Handle) (addr : U8) :
    IsRead1 s h addr 0 ⟨s.readRequest h addr 1, s.answer.response (s.readRequest h addr 1) (s.memLimit h)⟩ := by
  refine ⟨rfl, fun hs => ?_, fun hs => ?_⟩
  · rw [Succeeds_iff] at hs
    exact response_of_succeeds hs
  · rw [Succeeds_iff, Bool.not_eq_true] at hs
    exact response_of_fails hs

theorem isRead2_xact (h : Handle) (addr : U8) :
    IsRead2 s h addr 0 ⟨s.readRequest h addr 2, s.answer.response (s.readRequest h addr 2) (s.memLimit h)⟩ := by
  refine ⟨rfl, fun hs => ?_, fun hs => ?_⟩
  · rw [Succeeds_iff] at hs
    exact response_of_succeeds hs
  · rw [Succeeds_iff, Bool.not_eq_true] at hs
    exact response_of_fails hs

/-! ### `MemWrite` and `BusReady` -/

theorem isWrite_xact (h : Handle) (addr : U8) (l : List U8) :
    IsWrite s h addr l 0 ⟨s.writeRequest h addr l, s.answer.response (s.writeRequest h addr l) (s.memLimit h)⟩ := by
  refine ⟨rfl, fun hs => ?_, fun hs => ?_⟩
  · rw [Succeeds_iff] at hs
    exact response_of_succeeds hs
  · rw [Succeeds_iff, Bool.not_eq_true] at hs
    exact response_of_fails hs

theorem isReadyCheck_xact (h : Handle) :
    IsReadyCheck s h 0 ⟨s.readyRequest h, s.answer.response (s.readyRequest h) (s.readyLimit h)⟩ := by
  refine ⟨rfl, fun hs => ?_, fun hs => ?_⟩
  · rw [ReadySucceeds_iff] at hs
    exact response_of_succeeds hs
  · rw [ReadySucceeds_iff, Bool.not_eq_true] at hs
    exact response_of_fails hs

theorem memWrite1_ok (h : Handle) (addr b : U8) : (memWrite1 h addr b s).ok = true ↔ Succeeds s h 0 := by
  rw [Succeeds_iff]; cases h <;> rfl

theorem memWrite2_ok (h : Handle) (addr : U8) (w : U16) : (memWrite2 h addr w s).ok = true ↔ Succeeds s h 0 := by
  rw [Succeeds_iff]; cases h <;> rfl

theorem busReady_ok (h : Handle) : (busReady h s).ok = true ↔ ReadySucceeds s h 0 := by
  rw [ReadySucceeds_iff]; rfl

/-- Everything the state after a one-byte `MemWrite` holds. -/
theorem memWrite1_frame (h : Handle) (addr b : U8) :
    KeepsFixed s (memWrite1 h addr b s).state ∧ KeepsCalibration s (memWrite1 h addr b s).state ∧
      KeepsRx s (memWrite1 h addr b s).state ∧
      ((memWrite1 h addr b s).state.txb0 = b ∧ (memWrite1 h addr b s).state.txb1 = s.txb1) ∧
      Transacted s (memWrite1 h addr b s).state
        [⟨s.writeRequest h addr [b], s.answer.response (s.writeRequest h addr [b]) (s.memLimit h)⟩] (Elapsed s h 0) := by
  refine ⟨⟨rfl, rfl, rfl, rfl, rfl, rfl, rfl, rfl⟩, ⟨⟨rfl, rfl, rfl⟩, rfl⟩, ⟨rfl, rfl⟩, ⟨rfl, rfl⟩, ?_⟩
  cases h <;> exact ⟨rfl, rfl, rfl, rfl, rfl⟩

/-- Everything the state after a two-byte `MemWrite` holds. -/
theorem memWrite2_frame (h : Handle) (addr : U8) (w : U16) :
    KeepsFixed s (memWrite2 h addr w s).state ∧ KeepsCalibration s (memWrite2 h addr w s).state ∧
      KeepsRx s (memWrite2 h addr w s).state ∧ SentWord (memWrite2 h addr w s).state w ∧
      Transacted s (memWrite2 h addr w s).state
        [⟨s.writeRequest h addr [hiByte w, loByte w],
          s.answer.response (s.writeRequest h addr [hiByte w, loByte w]) (s.memLimit h)⟩] (Elapsed s h 0) := by
  rw [← byte0_eq_hiByte, ← byte1_eq_loByte]
  refine ⟨⟨rfl, rfl, rfl, rfl, rfl, rfl, rfl, rfl⟩, ⟨⟨rfl, rfl, rfl⟩, rfl⟩, ⟨rfl, rfl⟩,
    ⟨byte0_eq_hiByte w, byte1_eq_loByte w⟩, ?_⟩
  cases h <;> exact ⟨rfl, rfl, rfl, rfl, rfl⟩

/-- Everything the state after a ready check holds. -/
theorem busReady_frame (h : Handle) :
    KeepsFixed s (busReady h s).state ∧ KeepsCalibration s (busReady h s).state ∧ KeepsRx s (busReady h s).state ∧
      KeepsTx s (busReady h s).state ∧
      Transacted s (busReady h s).state
        [⟨s.readyRequest h, s.answer.response (s.readyRequest h) (s.readyLimit h)⟩]
        (min s.answer.after (s.readyLimit h)) :=
  ⟨⟨rfl, rfl, rfl, rfl, rfl, rfl, rfl, rfl⟩, ⟨⟨rfl, rfl, rfl⟩, rfl⟩, ⟨rfl, rfl⟩, ⟨rfl, rfl⟩, ⟨rfl, rfl, rfl, rfl, rfl⟩⟩

/-! ### Completion and calibration -/

/-- `respond` gives exactly its response. -/
theorem respond_responded (e : Err) (v : U64) : Responded (s.respond e v) e v :=
  ⟨by simp, rfl, rfl, rfl, rfl⟩

/-- A command that reports its outcome responds `NONE` on success and `BUS` on failure. -/
theorem respondBus_responded (ok : Bool) (v : U64) :
    Responded (s.respondBus ok v) (if ok then .none else .bus) v := respond_responded s _ v

/-- Completion after a successful checked transaction, and after a failed one. -/
theorem respondBus_of_ok {ok : Bool} (h : ok = true) (v : U64) : Responded (s.respondBus ok v) .none v := by
  subst h
  exact respond_responded s .none v

theorem respondBus_of_fail {ok : Bool} (h : ¬ ok = true) (v : U64) : Responded (s.respondBus ok v) .bus v := by
  rw [Bool.not_eq_true] at h
  subst h
  exact respond_responded s .bus v

/-! `respond` writes only the response, `BUSY` and `SEQ`: every frame carries over. -/

theorem Transacted.respond {s t : State} {l : List Transaction} {n : Nat} (h : Transacted s t l n) (e : Err) (v : U64) :
    Transacted s (t.respond e v) l n := ⟨h.bus, h.tst, h.tcnt, h.script, h.drawn⟩

theorem NoTransaction.respond {s t : State} (h : NoTransaction s t) (e : Err) (v : U64) :
    NoTransaction s (t.respond e v) := ⟨h.bus, h.tst, h.tcnt, h.script, h.drawn⟩

theorem Received1.respond {s t : State} {hd : Handle} {k : Nat} (h : Received1 s t hd k) (e : Err) (v : U64) :
    Received1 s (t.respond e v) hd k := by
  intro hs
  rw [State.respond_rxb0, State.respond_rxb1]
  exact h hs

theorem Received2.respond {s t : State} {hd : Handle} {k : Nat} (h : Received2 s t hd k) (e : Err) (v : U64) :
    Received2 s (t.respond e v) hd k := by
  intro hs
  rw [State.respond_rxb0, State.respond_rxb1]
  exact h hs

theorem SentWord.respond {t : State} {w : U16} (h : SentWord t w) (e : Err) (v : U64) :
    SentWord (t.respond e v) w := ⟨h.txb0, h.txb1⟩

theorem KeepsFixed.respond {s t : State} (h : KeepsFixed s t) (e : Err) (v : U64) : KeepsFixed s (t.respond e v) :=
  ⟨h.cw, h.opa, h.opb, h.encReg, h.monReg, h.dir, h.cfg, h.host⟩

theorem KeepsCalibration.respond {s t : State} (h : KeepsCalibration s t) (e : Err) (v : U64) :
    KeepsCalibration s (t.respond e v) := ⟨⟨h.calv, h.imaxUa, h.rshUohm⟩, h.calreg⟩

theorem KeepsCalInputs.respond {s t : State} (h : KeepsCalInputs s t) (e : Err) (v : U64) :
    KeepsCalInputs s (t.respond e v) := ⟨h.calv, h.imaxUa, h.rshUohm⟩

theorem KeepsTx.respond {s t : State} (h : KeepsTx s t) (e : Err) (v : U64) : KeepsTx s (t.respond e v) :=
  ⟨h.txb0, h.txb1⟩

theorem KeepsRx.respond {s t : State} (h : KeepsRx s t) (e : Err) (v : U64) : KeepsRx s (t.respond e v) :=
  ⟨h.rxb0, h.rxb1⟩

/-! Frames of two operations in a row. -/

theorem KeepsFixed.trans {s t u : State} (h : KeepsFixed s t) (k : KeepsFixed t u) : KeepsFixed s u :=
  ⟨k.cw.trans h.cw, k.opa.trans h.opa, k.opb.trans h.opb, k.encReg.trans h.encReg, k.monReg.trans h.monReg,
    k.dir.trans h.dir, k.cfg.trans h.cfg, k.host.trans h.host⟩

theorem KeepsCalInputs.trans {s t u : State} (h : KeepsCalInputs s t) (k : KeepsCalInputs t u) : KeepsCalInputs s u :=
  ⟨k.calv.trans h.calv, k.imaxUa.trans h.imaxUa, k.rshUohm.trans h.rshUohm⟩

theorem KeepsCalibration.trans {s t u : State} (h : KeepsCalibration s t) (k : KeepsCalibration t u) :
    KeepsCalibration s u :=
  ⟨h.toKeepsCalInputs.trans k.toKeepsCalInputs, k.calreg.trans h.calreg⟩

/-- The handle registers a frame keeps. -/
theorem KeepsFixed.handle {s t : State} (h : KeepsFixed s t) (hd : Handle) : t.handle hd = s.handle hd :=
  State.handle_congr h.encReg h.monReg hd

/-- After one transaction the `k`-th answer is the one that was the `k + 1`-th. -/
theorem Transacted.answerAt {s t : State} {tr : Transaction} {n : Nat} (h : Transacted s t [tr] n) (k : Nat) :
    t.answerAt k = s.answerAt (k + 1) :=
  State.answerAt_of_consumed h.script h.drawn k

/-- Success of the next transaction, seen from one transaction earlier. -/
theorem Transacted.succeeds {s t : State} {tr : Transaction} {n : Nat} (h : Transacted s t [tr] n) (f : KeepsFixed s t)
    (hd : Handle) (k : Nat) : Succeeds t hd k ↔ Succeeds s hd (k + 1) := by
  rw [Succeeds, Succeeds, h.answerAt, f.handle]

/-- Two transactions in a row. -/
theorem Transacted.append {s t u : State} {tr₁ tr₂ : Transaction} {m n : Nat} (h : Transacted s t [tr₁] m)
    (k : Transacted t u [tr₂] n) : Transacted s u [tr₁, tr₂] n := by
  refine ⟨?_, k.tst, k.tcnt, ?_, ?_⟩
  · rw [k.bus, h.bus, List.append_assoc]
    rfl
  · rw [k.script, h.script, List.drop_drop]
    rfl
  · have := k.drawn
    rw [h.drawn, h.script, List.length_drop] at this
    simp only [List.length_cons, List.length_nil] at this ⊢
    omega

/-- `recal` recomputes `CALREG`, keeps the inputs, and makes the one write of it. -/
theorem recal_frame :
    KeepsFixed s (recal s) ∧ KeepsCalInputs s (recal s) ∧ KeepsRx s (recal s) ∧
      (recal s).calreg = calval s.imaxUa s.rshUohm ∧ SentWord (recal s) (calval s.imaxUa s.rshUohm) ∧
      ∃ tr, IsWrite s .mon s.cfg.monCalib [hiByte (calval s.imaxUa s.rshUohm), loByte (calval s.imaxUa s.rshUohm)] 0 tr ∧
        Transacted s (recal s) [tr] (Elapsed s .mon 0) := by
  obtain ⟨⟨a1, a2, a3, a4, a5, a6, a7, a8⟩, ⟨⟨c1, c2, c3⟩, c4⟩, ⟨r1, r2⟩, sent, ⟨t1, t2, t3, t4, t5⟩⟩ :=
    memWrite2_frame (s.setCalreg (calval s.imaxUa s.rshUohm)) .mon s.cfg.monCalib (calval s.imaxUa s.rshUohm)
  have hw := isWrite_xact (s.setCalreg (calval s.imaxUa s.rshUohm)) .mon s.cfg.monCalib
    [hiByte (calval s.imaxUa s.rshUohm), loByte (calval s.imaxUa s.rshUohm)]
  exact ⟨⟨a1, a2, a3, a4, a5, a6, a7, a8⟩, ⟨c1, c2, c3⟩, ⟨r1, r2⟩, c4, ⟨sent.txb0, sent.txb1⟩, _, hw, ⟨t1, t2, t3, t4, t5⟩⟩

/-! ### Field descriptors -/

/-- The address of a half, by either name. -/
theorem symAddr_halfReg (p : Params) (h : ConfHalf) : symAddr p (halfReg h) = p.halfAddr h := by
  cases h <;> rfl

/-- The descriptors `Params.admitted` checks are those the pseudo-instructions use (rule R158). -/
theorem encDescriptors_eq (p : Params) :
    p.encDescriptors =
      [EncField.pm, .hyst, .outs, .pwmf, .sf, .fth, .wd].map fun f => (encFieldAddr p f, encFieldMask p f) := by
  simp [Params.encDescriptors, Params.halfAddr, encFieldAddr, encFieldMask, encFieldParam, symAddr_halfReg]

end Sys2Proof.Machine
end

