-- ==== Sys2Proof/Laws/PerInstr.lean ====
section
/-! SUPPORT. Per-instruction statements. `EncodeLegal`: what the encoder writes for an instruction is a legal command triple
(rule R85), one lemma per constructor. -/

namespace Sys2Proof.Laws

/-- The instruction's command triple is legal. -/
def EncodeLegal.Statement (i : Instr) : Prop := (encode i).wf = true

theorem EncodeLegal.rdb (h : Handle) (addr : U8) : EncodeLegal.Statement (.rdb h addr) :=
  wf_of_row _ _ _ _ rfl (reservedZero_ha _ _ _) (by simp) (by simp)

theorem EncodeLegal.wrb (h : Handle) (addr : U8) (data : U8) : EncodeLegal.Statement (.wrb h addr data) :=
  wf_of_row _ _ _ _ rfl (reservedZero_ha _ _ _) (by simp) (by simp)

theorem EncodeLegal.rdw (h : Handle) (addr : U8) : EncodeLegal.Statement (.rdw h addr) :=
  wf_of_row _ _ _ _ rfl (reservedZero_ha _ _ _) (by simp) (by simp)

theorem EncodeLegal.wrw (h : Handle) (addr : U8) (data : U16) : EncodeLegal.Statement (.wrw h addr data) :=
  wf_of_row _ _ _ _ rfl (reservedZero_ha _ _ _) (by simp) (by simp)

theorem EncodeLegal.probe (h : Handle) : EncodeLegal.Statement (.probe h) :=
  wf_of_row _ _ _ _ rfl (reservedZero_h _ _) (by simp) (by simp)

theorem EncodeLegal.mskb (value mask : U8) (invert : Bool) : EncodeLegal.Statement (.mskb value mask invert) :=
  wf_of_row _ _ _ _ rfl (reservedZero_f _ _) (by simp) (by simp)

theorem EncodeLegal.mskw (value mask : U16) (invert : Bool) : EncodeLegal.Statement (.mskw value mask invert) :=
  wf_of_row _ _ _ _ rfl (reservedZero_f _ _) (by simp) (by simp)

theorem EncodeLegal.cmpw (byte0 byte1 : U8) : EncodeLegal.Statement (.cmpw byte0 byte1) :=
  wf_of_row _ _ _ _ rfl (reservedZero_z _) (by simp) (by simp)

theorem EncodeLegal.splw (word : U16) : EncodeLegal.Statement (.splw word) :=
  wf_of_row _ _ _ _ rfl (reservedZero_z _) (by simp) (by simp)

theorem EncodeLegal.fgetb (h : Handle) (addr : U8) (mask : U8) : EncodeLegal.Statement (.fgetb h addr mask) :=
  wf_of_row _ _ _ _ rfl (reservedZero_ha _ _ _) (by simp) (by simp)

theorem EncodeLegal.fsetb (h : Handle) (addr : U8) (mask bits : U8) : EncodeLegal.Statement (.fsetb h addr mask bits) :=
  wf_of_row _ _ _ _ rfl (reservedZero_ha _ _ _) (by simp) (by simp)

theorem EncodeLegal.fgetw (h : Handle) (addr : U8) (mask : U16) : EncodeLegal.Statement (.fgetw h addr mask) :=
  wf_of_row _ _ _ _ rfl (reservedZero_ha _ _ _) (by simp) (by simp)

theorem EncodeLegal.fsetw (h : Handle) (addr : U8) (mask bits : U16) : EncodeLegal.Statement (.fsetw h addr mask bits) :=
  wf_of_row _ _ _ _ rfl (reservedZero_ha _ _ _) (by simp) (by simp)

theorem EncodeLegal.setcfg (h : Handle) (value : U16) : EncodeLegal.Statement (.setcfg h value) :=
  wf_of_row _ _ _ _ rfl (reservedZero_h _ _) (by simp) (by simp)

theorem EncodeLegal.egraw : EncodeLegal.Statement .egraw :=
  wf_of_row _ _ _ _ rfl (reservedZero_z _) (by simp) (by simp)

theorem EncodeLegal.egang : EncodeLegal.Statement .egang :=
  wf_of_row _ _ _ _ rfl (reservedZero_z _) (by simp) (by simp)

theorem EncodeLegal.egreal (unit : AngleUnit) : EncodeLegal.Statement (.egreal unit) :=
  wf_of_row _ _ _ _ rfl (reservedZero_f _ _) (by simp) (by simp)

theorem EncodeLegal.eszpos (value : U16) : EncodeLegal.Statement (.eszpos value) :=
  wf_of_row _ _ _ _ rfl (reservedZero_z _) (by simp) (by simp)

theorem EncodeLegal.esmpos (value : U16) : EncodeLegal.Statement (.esmpos value) :=
  wf_of_row _ _ _ _ rfl (reservedZero_z _) (by simp) (by simp)

theorem EncodeLegal.esmang (value : U16) : EncodeLegal.Statement (.esmang value) :=
  wf_of_row _ _ _ _ rfl (reservedZero_z _) (by simp) (by simp)

theorem EncodeLegal.emdet : EncodeLegal.Statement .emdet :=
  wf_of_row _ _ _ _ rfl (reservedZero_z _) (by simp) (by simp)

theorem EncodeLegal.emstr : EncodeLegal.Statement .emstr :=
  wf_of_row _ _ _ _ rfl (reservedZero_z _) (by simp) (by simp)

theorem EncodeLegal.emweak : EncodeLegal.Statement .emweak :=
  wf_of_row _ _ _ _ rfl (reservedZero_z _) (by simp) (by simp)

theorem EncodeLegal.mgrbus : EncodeLegal.Statement .mgrbus :=
  wf_of_row _ _ _ _ rfl (reservedZero_z _) (by simp) (by simp)

theorem EncodeLegal.mgrshv : EncodeLegal.Statement .mgrshv :=
  wf_of_row _ _ _ _ rfl (reservedZero_z _) (by simp) (by simp)

theorem EncodeLegal.mgrcur : EncodeLegal.Statement .mgrcur :=
  wf_of_row _ _ _ _ rfl (reservedZero_z _) (by simp) (by simp)

theorem EncodeLegal.mgrpwr : EncodeLegal.Statement .mgrpwr :=
  wf_of_row _ _ _ _ rfl (reservedZero_z _) (by simp) (by simp)

theorem EncodeLegal.mgbusv : EncodeLegal.Statement .mgbusv :=
  wf_of_row _ _ _ _ rfl (reservedZero_z _) (by simp) (by simp)

theorem EncodeLegal.mgshv : EncodeLegal.Statement .mgshv :=
  wf_of_row _ _ _ _ rfl (reservedZero_z _) (by simp) (by simp)

theorem EncodeLegal.mgcur : EncodeLegal.Statement .mgcur :=
  wf_of_row _ _ _ _ rfl (reservedZero_z _) (by simp) (by simp)

theorem EncodeLegal.mgpwr : EncodeLegal.Statement .mgpwr :=
  wf_of_row _ _ _ _ rfl (reservedZero_z _) (by simp) (by simp)

theorem EncodeLegal.mcal (imaxUa rshUohm : U32) : EncodeLegal.Statement (.mcal imaxUa rshUohm) :=
  wf_of_row _ _ _ _ rfl (reservedZero_z _) (by simp) (by simp)

theorem EncodeLegal.mrst : EncodeLegal.Statement .mrst :=
  wf_of_row _ _ _ _ rfl (reservedZero_z _) (by simp) (by simp)

end Sys2Proof.Laws
end

