-- ==== Sys2Proof/Machine/Assembler.lean ====
section
/-! DEFINITION. The assembler syntax of rule R88, as a printer: the mnemonic, then the operands in the order `h`, `addr`,
`opa` field, `opb` field, `f`. Bytes are written with two hexadecimal digits and words with four, the operands
of `MCAL` in decimal (log entry 18: the rule admits either). -/

namespace Sys2Proof.Machine

/-- The mnemonic of a command (rule R83). -/
def mnemonic : Instr → String
  | .rdb _ _ => "RDB"
  | .wrb _ _ _ => "WRB"
  | .rdw _ _ => "RDW"
  | .wrw _ _ _ => "WRW"
  | .probe _ => "PROBE"
  | .mskb _ _ _ => "MSKB"
  | .mskw _ _ _ => "MSKW"
  | .cmpw _ _ => "CMPW"
  | .splw _ => "SPLW"
  | .fgetb _ _ _ => "FGETB"
  | .fsetb _ _ _ _ => "FSETB"
  | .fgetw _ _ _ => "FGETW"
  | .fsetw _ _ _ _ => "FSETW"
  | .setcfg _ _ => "SETCFG"
  | .egraw => "EGRAW"
  | .egang => "EGANG"
  | .egreal _ => "EGREAL"
  | .eszpos _ => "ESZPOS"
  | .esmpos _ => "ESMPOS"
  | .esmang _ => "ESMANG"
  | .emdet => "EMDET"
  | .emstr => "EMSTR"
  | .emweak => "EMWEAK"
  | .mgrbus => "MGRBUS"
  | .mgrshv => "MGRSHV"
  | .mgrcur => "MGRCUR"
  | .mgrpwr => "MGRPWR"
  | .mgbusv => "MGBUSV"
  | .mgshv => "MGSHV"
  | .mgcur => "MGCUR"
  | .mgpwr => "MGPWR"
  | .mcal _ _ => "MCAL"
  | .mrst => "MRST"

/-- The hexadecimal digits of a number, padded with zeros to `digits`. -/
def hexString (digits n : Nat) : String :=
  let ds := (Nat.toDigits 16 n).map Char.toUpper
  "0x" ++ String.ofList (List.replicate (digits - ds.length) '0' ++ ds)

/-- A byte operand. -/
def byteText (b : U8) : String := hexString 2 b.toNat

/-- A word operand. -/
def wordText (w : U16) : String := hexString 4 w.toNat

/-- A 32-bit operand, in decimal. -/
def decText (v : U32) : String := String.ofList (Nat.toDigits 10 v.toNat)

/-- The handle operand. -/
def handleText : Handle → String
  | .enc => "enc"
  | .mon => "mon"

/-- The `f` operand of `MSKB` and `MSKW`: nothing or `inv`. -/
def invertText : Bool → List String
  | false => []
  | true => ["inv"]

/-- The `f` operand of `EGREAL`. -/
def unitText : AngleUnit → String
  | .deg => "deg"
  | .rad => "rad"

/-- The operands of a command in the order of rule R88. -/
def operandTexts : Instr → List String
  | .rdb h addr => [handleText h, byteText addr]
  | .wrb h addr data => [handleText h, byteText addr, byteText data]
  | .rdw h addr => [handleText h, byteText addr]
  | .wrw h addr data => [handleText h, byteText addr, wordText data]
  | .probe h => [handleText h]
  | .mskb value mask invert => [byteText value, byteText mask] ++ invertText invert
  | .mskw value mask invert => [wordText value, wordText mask] ++ invertText invert
  | .cmpw b0 b1 => [byteText b0, byteText b1]
  | .splw w => [wordText w]
  | .fgetb h addr mask => [handleText h, byteText addr, byteText mask]
  | .fsetb h addr mask bits => [handleText h, byteText addr, byteText mask, byteText bits]
  | .fgetw h addr mask => [handleText h, byteText addr, wordText mask]
  | .fsetw h addr mask bits => [handleText h, byteText addr, wordText mask, wordText bits]
  | .setcfg h value => [handleText h, wordText value]
  | .egreal unit => [unitText unit]
  | .eszpos value => [wordText value]
  | .esmpos value => [wordText value]
  | .esmang value => [wordText value]
  | .mcal imaxUa rshUohm => [decText imaxUa, decText rshUohm]
  | .egraw | .egang | .emdet | .emstr | .emweak => []
  | .mgrbus | .mgrshv | .mgrcur | .mgrpwr | .mgbusv | .mgshv | .mgcur | .mgpwr | .mrst => []

/-- One line of assembler: the mnemonic, then the operands separated by commas. -/
def asmLine (name : String) (operands : List String) : String :=
  if operands.isEmpty then name else name ++ " " ++ String.intercalate ", " operands

/-- A command in assembler syntax (rule R88). -/
def asmText (i : Instr) : String := asmLine (mnemonic i) (operandTexts i)

/-- A pseudo-instruction in assembler syntax (rules R88, R158 and R190). -/
def asmPseudo (q : Pseudo) : String :=
  asmLine (pseudoMnemonic q) (match q with
    | .encSet _ v => [byteText v]
    | .monSet _ v => [wordText v]
    | .encGet _ => []
    | .monGet _ => [])

end Sys2Proof.Machine
end

