-- ==== Sys2Proof/Tests/Slice0.lean ====
section
/-! SUPPORT. Tests: the checks of `WellFormed.lean` refuse an ill-formed term each; every command's decoding from a word written
out from rules R77 and R83; the vectors of `95_test_vectors.md` (named `V-…` in the comments), one step each; and, for
every obligation with hypotheses, a concrete state and operands that meet them (`witness_…`). -/

namespace Sys2Proof.Tests

open Sys2Proof.Machine

/-! ## The test configuration TC0 and its fixtures -/

/-- TC0 (`95_test_vectors.md` section 0). -/
def tc0 (dir : Dir) : Params where
  busEnc := ⟨0⟩
  busMon := ⟨0⟩
  addr7Enc := 0x36
  addr7Mon := 0x40
  timeoutEnc := 100
  timeoutMon := 100
  tick := 1
  probeTrials := 3
  dir := dir
  encZpos := 0x01
  encMpos := 0x03
  encMang := 0x05
  encConfHi := 0x07
  encConfLo := 0x08
  encStatus := 0x0B
  encRawAngle := 0x0C
  encAngle := 0x0E
  encStMd := 0x20
  encStMl := 0x10
  encStMh := 0x08
  encOuts := ⟨.lo, 0x30⟩
  encPwmf := ⟨.lo, 0xC0⟩
  encSf := ⟨.hi, 0x03⟩
  encFth := ⟨.hi, 0x1C⟩
  encWd := ⟨.hi, 0x20⟩
  monConfig := 0x00
  monShunt := 0x01
  monBus := 0x02
  monPower := 0x03
  monCurrent := 0x04
  monCalib := 0x05
  monBusOvf := 0x0001
  monCfgRst := 0x8000
  monVr := 0x2000
  monPga := 0x1800
  monBadc := 0x0780
  monSadc := 0x0078
  monMode := 0x0007

/-- An answer `-> [b0, b1]` or `-> ok`, arriving at time unit `after`; a draw would be 0x5A, 0xA5. -/
def good (after : Nat) (b0 b1 : U8) : Answer := ⟨after, true, b0, b1, 0x5A, 0xA5, 0x11, 0x22⟩

/-- An answer `-> fail` with draws `d0`, `d1`. -/
def bad (d0 d1 : U8) : Answer := ⟨0, false, 0xEE, 0xEE, d0, d1, 0x11, 0x22⟩

/-- The state after reset under TC0, with the environment's next answers listed. -/
def start (dir : Dir) (answers : List Answer) : State := { State.resetWith (tc0 dir) with script := answers }

/-- `start` with the calibration of V-D56. -/
def calibrated (answers : List Answer) : State := (start .cw answers).setCalibration 3200000 100000

/-- One step on a presented triple. -/
def present (s : State) (cw opa opb : U32) : Host.Outcome State Fault Refusal := step { s with host := [⟨cw, opa, opb⟩] }

/-- `R(dev, reg, n) -> [..]`. -/
def rd (dev reg : U8) (bytes : List U8) : Transaction :=
  ⟨⟨.memRead, ⟨0⟩, dev, reg, bytes.length, [], 100, 0⟩, ⟨true, bytes⟩⟩

/-- `R(dev, reg, n) -> fail`. -/
def rdFail (dev reg : U8) (n : Nat) : Transaction := ⟨⟨.memRead, ⟨0⟩, dev, reg, n, [], 100, 0⟩, ⟨false, []⟩⟩

/-- `W(dev, reg, [..]) -> ok` or `-> fail`. -/
def wr (dev reg : U8) (bytes : List U8) (ok : Bool) : Transaction :=
  ⟨⟨.memWrite, ⟨0⟩, dev, reg, bytes.length, bytes, 100, 0⟩, ⟨ok, []⟩⟩

/-- `P(dev) -> ok` or `-> fail`. -/
def probeOf (dev : U8) (ok : Bool) : Transaction := ⟨⟨.readyCheck, ⟨0⟩, dev, 0, 0, [], 100, 3⟩, ⟨ok, []⟩⟩

/-- The step ended in this response after this trace. -/
def gives (o : Host.Outcome State Fault Refusal) (ok : Bool) (err : BitVec 2) (val : U64) (trace : List Transaction) : Bool :=
  match o with
  | .next t => t.response == (ok, err, val) && t.bus == trace && !t.busy
  | .fault _ => false
  | .refused _ => false

/-- The step ended in the refusal `r`. -/
def refuses (o : Host.Outcome State Fault Refusal) (r : Refusal) : Bool :=
  match o with
  | .next _ => false
  | .fault _ => false
  | .refused r' => r' == r

/-- The state a step ended in. -/
def endsIn (o : Host.Outcome State Fault Refusal) (p : State → Bool) : Bool :=
  match o with
  | .next t => p t
  | .fault _ => false
  | .refused _ => false

/-! ## The well-formedness checks refuse -/

theorem test_wf_accepts : Command.wf ⟨0x00050104, 0x1062, 0⟩ = true := by decide
theorem test_wf_unknown_opcode : Command.wf ⟨0x000000FF, 0, 0⟩ = false := by decide
theorem test_wf_reserved_mid : Command.wf ⟨0x000B0401, 0, 0⟩ = false := by decide
theorem test_wf_reserved_top : Command.wf ⟨0x010B0001, 0, 0⟩ = false := by decide
theorem test_wf_handle_where_none : Command.wf ⟨0x00000144, 0, 0⟩ = false := by decide
theorem test_wf_flag_where_none : Command.wf ⟨0x00080221, 0x0C, 0x08⟩ = false := by decide
theorem test_wf_addr_where_none : Command.wf ⟨0x00010005, 0, 0⟩ = false := by decide
theorem test_wf_opa_too_wide : Command.wf ⟨0x00000010, 0x100, 0x0C⟩ = false := by decide
theorem test_wf_opb_too_wide : Command.wf ⟨0x00000012, 0x12, 0x134⟩ = false := by decide
theorem test_params_tc0_admitted : (tc0 .cw).admitted = true ∧ (tc0 .ccw).admitted = true := by decide
theorem test_params_timeouts : Params.timeoutsPositive { tc0 .cw with timeoutMon := 0 } = false := by decide
theorem test_params_trials : Params.trialsPositive { tc0 .cw with probeTrials := 0 } = false := by decide
theorem test_params_enc_addrs : Params.encAddrsInRange { tc0 .cw with encAngle := 0x1D } = false := by decide
theorem test_params_mon_addrs : Params.monAddrsInRange { tc0 .cw with monCalib := 0x06 } = false := by decide
theorem test_params_mon_different : Params.monAddrsDifferent { tc0 .cw with monCalib := 0x02 } = false := by decide
theorem test_params_flag_one_bit : Params.statusFlagsOk { tc0 .cw with encStMl := 0x30 } = false := by decide
theorem test_params_flags_different : Params.statusFlagsOk { tc0 .cw with encStMl := 0x20 } = false := by decide
theorem test_params_enc_masks : Params.encMasksOk { tc0 .cw with encOuts := ⟨.lo, 0x38⟩ } = false := by decide
/-- With both halves at one address the masks of all seven fields must be disjoint. -/
theorem test_params_enc_masks_one_register :
    Params.encMasksOk { tc0 .cw with encConfHi := 0x08 } = false ∧ Params.admitted { tc0 .cw with encConfHi := 0x08 } = false := by
  decide
theorem test_params_enc_mask_zero : Params.encMasksOk { tc0 .cw with encWd := ⟨.hi, 0x00⟩ } = false := by decide
theorem test_params_ovf : Params.busOvfOk { tc0 .cw with monBusOvf := 0x0008 } = false := by decide
theorem test_params_mon_masks : Params.monMasksOk { tc0 .cw with monVr := 0xA000 } = false := by decide
theorem test_params_not_admitted : Params.admitted { tc0 .cw with monMode := 0x000F } = false := by decide

/-! ## Every command decodes from its word (rules R77 and R83) -/

theorem test_decode_transport :
    decode ⟨0x000B0001, 0, 0⟩ = .ok (.rdb .enc 0x0B) ∧ decode ⟨0x00080002, 0xBB, 0⟩ = .ok (.wrb .enc 0x08 0xBB) ∧
    decode ⟨0x00020103, 0, 0⟩ = .ok (.rdw .mon 0x02) ∧ decode ⟨0x00050104, 0x1062, 0⟩ = .ok (.wrw .mon 0x05 0x1062) ∧
    decode ⟨0x00000105, 0, 0⟩ = .ok (.probe .mon) := by decide

theorem test_decode_codec :
    decode ⟨0x00000210, 0xB7, 0x0C⟩ = .ok (.mskb 0xB7 0x0C true) ∧
    decode ⟨0x00000011, 0x399F, 0x1800⟩ = .ok (.mskw 0x399F 0x1800 false) ∧
    decode ⟨0x00000012, 0x12, 0x34⟩ = .ok (.cmpw 0x12 0x34) ∧ decode ⟨0x00000013, 0xABCD, 0⟩ = .ok (.splw 0xABCD) := by
  decide

theorem test_decode_field :
    decode ⟨0x00080020, 0x03, 0⟩ = .ok (.fgetb .enc 0x08 0x03) ∧
    decode ⟨0x00080021, 0x0C, 0x08⟩ = .ok (.fsetb .enc 0x08 0x0C 0x08) ∧
    decode ⟨0x00000122, 0x1800, 0⟩ = .ok (.fgetw .mon 0x00 0x1800) ∧
    decode ⟨0x00000123, 0x1800, 0x0800⟩ = .ok (.fsetw .mon 0x00 0x1800 0x0800) ∧
    decode ⟨0x00000124, 0x399F, 0⟩ = .ok (.setcfg .mon 0x399F) := by decide

theorem test_decode_encoder :
    decode ⟨0x00000030, 0, 0⟩ = .ok .egraw ∧ decode ⟨0x00000031, 0, 0⟩ = .ok .egang ∧
    decode ⟨0x00000032, 0, 0⟩ = .ok (.egreal .deg) ∧ decode ⟨0x00000232, 0, 0⟩ = .ok (.egreal .rad) ∧
    decode ⟨0x00000033, 0x0FFF, 0⟩ = .ok (.eszpos 0x0FFF) ∧ decode ⟨0x00000034, 0x0800, 0⟩ = .ok (.esmpos 0x0800) ∧
    decode ⟨0x00000035, 0xFFFF, 0⟩ = .ok (.esmang 0xFFFF) ∧ decode ⟨0x00000036, 0, 0⟩ = .ok .emdet ∧
    decode ⟨0x00000037, 0, 0⟩ = .ok .emstr ∧ decode ⟨0x00000038, 0, 0⟩ = .ok .emweak := by decide

theorem test_decode_monitor :
    decode ⟨0x00000040, 0, 0⟩ = .ok .mgrbus ∧ decode ⟨0x00000041, 0, 0⟩ = .ok .mgrshv ∧
    decode ⟨0x00000042, 0, 0⟩ = .ok .mgrcur ∧ decode ⟨0x00000043, 0, 0⟩ = .ok .mgrpwr ∧
    decode ⟨0x00000044, 0, 0⟩ = .ok .mgbusv ∧ decode ⟨0x00000045, 0, 0⟩ = .ok .mgshv ∧
    decode ⟨0x00000046, 0, 0⟩ = .ok .mgcur ∧ decode ⟨0x00000047, 0, 0⟩ = .ok .mgpwr ∧
    decode ⟨0x00000048, 0x0030D400, 0x000186A0⟩ = .ok (.mcal 3200000 100000) ∧
    decode ⟨0x00000049, 0, 0⟩ = .ok .mrst := by decide

/-- V-D18, V-D43a, V-D61 to V-D69: the first failing check of rule R84. -/
theorem test_decode_rejects :
    decode ⟨0x00000000, 0, 0⟩ = .error .unknownOpcode ∧ decode ⟨0x000000FF, 0, 0⟩ = .error .unknownOpcode ∧
    decode ⟨0x000B0001, 1, 0⟩ = .error .reservedOpa ∧ decode ⟨0x00010005, 0, 0⟩ = .error .reservedCw ∧
    decode ⟨0x010B0001, 0, 0⟩ = .error .reservedCw ∧ decode ⟨0x000B0401, 0, 0⟩ = .error .reservedCw ∧
    decode ⟨0x00000144, 0, 0⟩ = .error .reservedCw ∧ decode ⟨0x00080221, 0x0C, 0x08⟩ = .error .reservedCw ∧
    decode ⟨0x00000010, 0x100, 0x0C⟩ = .error .reservedOpa ∧ decode ⟨0x00000035, 0x10000, 0⟩ = .error .reservedOpa ∧
    decode ⟨0x00000012, 0x12, 0x134⟩ = .error .reservedOpb := by decide

/-- V-D68: the first unused opcode after each group. -/
theorem test_decode_unused_opcodes :
    ([0x06, 0x14, 0x25, 0x39, 0x4A] : List U32).all (fun cw => decode ⟨cw, 0, 0⟩ = .error .unknownOpcode) = true := by decide

theorem test_encode_words :
    encode (.wrw .mon 0x05 0x1062) = ⟨0x00050104, 0x1062, 0⟩ ∧ encode (.egreal .rad) = ⟨0x00000232, 0, 0⟩ ∧
    encode (.fsetb .enc 0x08 0x0C 0x08) = ⟨0x00080021, 0x0C, 0x08⟩ ∧
    encode (.mcal 3200000 100000) = ⟨0x00000048, 0x0030D400, 0x000186A0⟩ := by decide

/-- The table's numbering: `cw` in bits 31 to 0, `opa` in 63 to 32, `opb` in 95 to 64; the bits above `nbits` are zero. -/
theorem test_decode_table_word :
    decodeTableWord 96 0x000000080000000C00080021 = some (.fsetb .enc 0x08 0x0C 0x08) ∧
    decodeTableWord 32 0x000000080000000C00080021 = some (.fsetb .enc 0x08 0 0) ∧
    decodeTableWord 32 0x144 = none := by decide

/-- The placed word is the next command, and runs. -/
theorem test_with_fetch_word :
    gives (step ((start .cw [good 0 0x20 0]).withFetchWord 32 0x000B0001)) true 0 0x20 [rd 0x6C 0x0B [0x20]] = true := by
  decide

/-! ## Vectors, one step each -/

/-- V-D1. -/
theorem test_rdb : gives (present (start .cw [good 0 0x20 0]) 0x000B0001 0 0) true 0 0x20 [rd 0x6C 0x0B [0x20]] = true := by
  decide

/-- V-D2. -/
theorem test_rdb_fails : gives (present (start .cw [bad 0xD7 0]) 0x000B0001 0 0) false 1 0xD7 [rdFail 0x6C 0x0B 1] = true := by
  decide

/-- V-D74: an answer that is not there when `TCNT` reaches the limit is a failure. -/
theorem test_rdb_times_out :
    gives (present (start .cw [good 100 0x20 0]) 0x000B0001 0 0) false 1 0x5A [rdFail 0x6C 0x0B 1] = true ∧
    endsIn (present (start .cw [good 100 0x20 0]) 0x000B0001 0 0) (fun t => t.tcnt == 100 && t.tst == .idle) = true := by
  decide

/-- V-D3, V-D4. -/
theorem test_wrb :
    gives (present (start .cw [good 0 0 0]) 0x00080002 0xBB 0) true 0 0 [wr 0x6C 0x08 [0xBB] true] = true ∧
    gives (present (start .cw [bad 0 0]) 0x00080002 0xBB 0) false 1 0 [wr 0x6C 0x08 [0xBB] false] = true := by decide

/-- V-D5, V-D9b. -/
theorem test_rdw :
    gives (present (start .cw [good 0 0x1F 0x47]) 0x00020103 0 0) true 0 0x1F47 [rd 0x80 0x02 [0x1F, 0x47]] = true ∧
    gives (present (start .cw [bad 0x12 0x34]) 0x000E0003 0 0) false 1 0x1234 [rdFail 0x6C 0x0E 2] = true := by decide

/-- V-D7. -/
theorem test_wrw :
    gives (present (start .cw [good 0 0 0]) 0x00050104 0x1062 0) true 0 0 [wr 0x80 0x05 [0x10, 0x62] true] = true := by decide

/-- V-D8, V-D9, V-D73: acknowledged at time unit 299, not acknowledged, and no answer within 300 units. -/
theorem test_probe :
    gives (present (start .cw [good 299 0 0]) 0x00000005 0 0) true 0 1 [probeOf 0x6C true] = true ∧
    gives (present (start .cw [bad 0 0]) 0x00000105 0 0) true 0 0 [probeOf 0x80 false] = true ∧
    gives (present (start .cw [good 300 0 0]) 0x00000005 0 0) true 0 0 [probeOf 0x6C false] = true := by decide

/-- V-D10 to V-D13. -/
theorem test_mskb :
    gives (present (start .cw []) 0x00000010 0xB7 0x0C) true 0 0x04 [] = true ∧
    gives (present (start .cw []) 0x00000210 0xB7 0x0C) true 0 0xB3 [] = true ∧
    gives (present (start .cw []) 0x00000210 0xB7 0x00) true 0 0xB7 [] = true ∧
    gives (present (start .cw []) 0x00000210 0xB7 0xFF) true 0 0x00 [] = true := by decide

/-- V-D14, V-D15. -/
theorem test_mskw :
    gives (present (start .cw []) 0x00000011 0x399F 0x1800) true 0 0x1800 [] = true ∧
    gives (present (start .cw []) 0x00000211 0x399F 0x1800) true 0 0x219F [] = true := by decide

/-- V-D16. -/
theorem test_cmpw : gives (present (start .cw []) 0x00000012 0x12 0x34) true 0 0x1234 [] = true := by decide

/-- V-D17. -/
theorem test_splw : gives (present (start .cw []) 0x00000013 0xABCD 0) true 0 0xCDAB [] = true := by decide

/-- V-D21, V-D30. -/
theorem test_fgetb :
    gives (present (start .cw [good 0 0xBB 0]) 0x00080020 0x0C 0) true 0 0x08 [rd 0x6C 0x08 [0xBB]] = true ∧
    gives (present (start .cw [bad 0xD7 0]) 0x00080020 0x0C 0) true 0 0x04 [rdFail 0x6C 0x08 1] = true := by decide

/-- V-D22, V-D23. -/
theorem test_fsetb :
    gives (present (start .cw [good 0 0xB7 0, good 0 0 0]) 0x00080021 0x0C 0x08) true 0 0
      [rd 0x6C 0x08 [0xB7], wr 0x6C 0x08 [0xBB] true] = true ∧
    gives (present (start .cw [good 0 0x87 0, good 0 0 0]) 0x00080021 0x0C 0x18) true 0 0
      [rd 0x6C 0x08 [0x87], wr 0x6C 0x08 [0x9B] true] = true := by decide

/-- V-D25, and P3 step 1. -/
theorem test_fsetb_fails :
    gives (present (start .cw [good 0 0xB7 0, bad 0 0]) 0x00080021 0x0C 0x08) false 1 0
      [rd 0x6C 0x08 [0xB7], wr 0x6C 0x08 [0xBB] false] = true ∧
    gives (present (start .cw [bad 0xFF 0, good 0 0 0]) 0x00080021 0x0C 0x08) false 1 0 [rdFail 0x6C 0x08 1] = true := by
  decide

/-- V-D26. -/
theorem test_fgetw :
    gives (present (start .cw [good 0 0x39 0x9F]) 0x00000122 0x1800 0) true 0 0x1800 [rd 0x80 0x00 [0x39, 0x9F]] = true := by
  decide

/-- V-D27, V-D28. -/
theorem test_fsetw :
    gives (present (start .cw [good 0 0x39 0x9F, good 0 0 0]) 0x00000123 0x1800 0x0800) true 0 0
      [rd 0x80 0x00 [0x39, 0x9F], wr 0x80 0x00 [0x29, 0x9F] true] = true ∧
    gives (present (start .cw [bad 0 0]) 0x00000123 0x1800 0x0800) false 1 0 [rdFail 0x80 0x00 2] = true := by decide

/-- V-D29, V-D29a. -/
theorem test_setcfg :
    gives (present (start .cw [good 0 0 0]) 0x00000124 0x399F 0) true 0 0 [wr 0x80 0x00 [0x39, 0x9F] true] = true ∧
    gives (present (start .cw [good 0 0 0]) 0x00000024 0x1234 0) true 0 0 [wr 0x6C 0x07 [0x12, 0x34] true] = true := by decide

/-- V-S3, V-D36. -/
theorem test_egraw :
    gives (present (start .ccw [good 0 0x02 0x00]) 0x00000030 0 0) true 0 0x0DFF [rd 0x6C 0x0C [0x02, 0x00]] = true ∧
    gives (present (start .ccw [good 0 0x00 0x00]) 0x00000030 0 0) true 0 0x0FFF [rd 0x6C 0x0C [0x00, 0x00]] = true := by decide

/-- V-D38, V-D38a: the clockwise path is unmasked. -/
theorem test_egang :
    gives (present (start .ccw [good 0 0xF2 0x00]) 0x00000031 0 0) true 0 0x0DFF [rd 0x6C 0x0E [0xF2, 0x00]] = true ∧
    gives (present (start .cw [good 0 0xF2 0x00]) 0x00000031 0 0) true 0 0xF200 [rd 0x6C 0x0E [0xF2, 0x00]] = true := by decide

/-- V-D39, V-D41, V-D41a. -/
theorem test_egreal :
    gives (present (start .cw [good 0 0x0F 0xFF]) 0x00000032 0 0) true 0 184275 [rd 0x6C 0x0E [0x0F, 0xFF]] = true ∧
    gives (present (start .ccw [good 0 0x04 0x00]) 0x00000032 0 0) true 0 138195 [rd 0x6C 0x0E [0x04, 0x00]] = true ∧
    gives (present (start .ccw [good 0 0x04 0x00]) 0x00000232 0 0) true 0 3071 [rd 0x6C 0x0E [0x04, 0x00]] = true := by decide

/-- V-S2, V-D44a. -/
theorem test_eszpos :
    gives (present (start .cw []) 0x00000033 0x1000 0) false 2 0 [] = true ∧
    gives (present (start .cw [bad 0 0]) 0x00000033 0x0FFF 0) false 1 0 [wr 0x6C 0x01 [0x0F, 0xFF] false] = true := by decide

/-- V-D42. -/
theorem test_esmpos :
    gives (present (start .cw [good 0 0 0]) 0x00000034 0x0800 0) true 0 0 [wr 0x6C 0x03 [0x08, 0x00] true] = true := by decide

/-- V-D43, V-D43a. -/
theorem test_esmang :
    gives (present (start .cw []) 0x00000035 0xFFFF 0) false 2 0 [] = true ∧
    gives (present (start .cw []) 0x00000035 0x00010000 0) false 3 0 [] = true := by decide

/-- V-D46. -/
theorem test_emdet :
    gives (present (start .cw [good 0 0x20 0]) 0x00000036 0 0) true 0 1 [rd 0x6C 0x0B [0x20]] = true ∧
    gives (present (start .cw [good 0 0x21 0]) 0x00000036 0 0) true 0 0 [rd 0x6C 0x0B [0x21]] = true := by decide

/-- V-D45. -/
theorem test_emstr :
    gives (present (start .cw [good 0 0x08 0]) 0x00000037 0 0) true 0 1 [rd 0x6C 0x0B [0x08]] = true ∧
    gives (present (start .cw [good 0 0x28 0]) 0x00000037 0 0) true 0 0 [rd 0x6C 0x0B [0x28]] = true := by decide

/-- V-S7, and the byte of the weak flag alone. -/
theorem test_emweak :
    gives (present (start .cw [good 0 0x30 0]) 0x00000038 0 0) true 0 0 [rd 0x6C 0x0B [0x30]] = true ∧
    gives (present (start .cw [good 0 0x10 0]) 0x00000038 0 0) true 0 1 [rd 0x6C 0x0B [0x10]] = true := by decide

/-- V-D50, V-D50a. -/
theorem test_mgrbus :
    gives (present (start .cw [good 0 0x1F 0x47]) 0x00000040 0 0) true 0 4000 [rd 0x80 0x02 [0x1F, 0x47]] = true ∧
    gives (present (start .cw [good 0 0xFF 0xF8]) 0x00000040 0 0) true 0 32764 [rd 0x80 0x02 [0xFF, 0xF8]] = true := by decide

/-- V-D51. -/
theorem test_mgrshv :
    gives (present (start .cw [good 0 0x80 0x00]) 0x00000041 0 0) true 0 0xFFFFFFFFFFFF8000 [rd 0x80 0x01 [0x80, 0x00]] = true := by
  decide

/-- V-D52: no calibration is needed and none is written. -/
theorem test_mgrcur :
    gives (present (start .cw [good 0 0x03 0xE8]) 0x00000042 0 0) true 0 1000 [rd 0x80 0x04 [0x03, 0xE8]] = true := by decide

/-- V-D53. -/
theorem test_mgrpwr :
    gives (present (start .cw [good 0 0x01 0xF4]) 0x00000043 0 0) true 0 500 [rd 0x80 0x03 [0x01, 0xF4]] = true := by decide

/-- V-S6. -/
theorem test_mgbusv :
    gives (present (start .cw [good 0 0xFF 0xFF]) 0x00000044 0 0) true 0 0xFFFFFFFFFFFE7960 [rd 0x80 0x02 [0xFF, 0xFF]] = true ∧
    gives (present (start .cw [good 0 0x1F 0x42]) 0x00000044 0 0) true 0 4000 [rd 0x80 0x02 [0x1F, 0x42]] = true := by decide

/-- V-D55a, V-D55b. -/
theorem test_mgshv :
    gives (present (start .cw [good 0 0xF0 0x60]) 0x00000045 0 0) true 0 0xFFFFFFFFFFFF63C0 [rd 0x80 0x01 [0xF0, 0x60]] = true ∧
    gives (present (start .cw [good 0 0x80 0x00]) 0x00000045 0 0) true 0 0xFFFFFFFFFFFB0000 [rd 0x80 0x01 [0x80, 0x00]] = true := by
  decide

/-- V-D56a, V-D33 (both transactions fail and neither is reported). -/
theorem test_mgcur :
    gives (present (calibrated [good 0 0 0, good 0 0xFC 0x18]) 0x00000046 0 0) true 0 0xFFFFFFFF4143E000
      [wr 0x80 0x05 [0x10, 0x62] true, rd 0x80 0x04 [0xFC, 0x18]] = true ∧
    gives (present (calibrated [bad 0 0, bad 0x03 0xE8]) 0x00000046 0 0) true 0 3200000000
      [wr 0x80 0x05 [0x10, 0x62] false, rdFail 0x80 0x04 2] = true := by decide

/-- V-D72. -/
theorem test_mgcur_before_mcal : refuses (present (start .cw []) 0x00000046 0 0) .calibrationNotValid = true := by decide

/-- V-D57, and the case of V-D72. -/
theorem test_mgpwr :
    gives (present (calibrated [good 0 0 0, good 0 0x01 0xF4]) 0x00000047 0 0) true 0 0x773594000
      [wr 0x80 0x05 [0x10, 0x62] true, rd 0x80 0x03 [0x01, 0xF4]] = true ∧
    refuses (present (start .cw []) 0x00000047 0 0) .calibrationNotValid = true := by decide

/-- V-S5, V-D34: the state is kept when the write fails. -/
theorem test_mcal :
    gives (present (start .cw [bad 0 0]) 0x00000048 0x0030D400 0x000186A0) true 0 0 [wr 0x80 0x05 [0x10, 0x62] false] = true ∧
    endsIn (present (start .cw [bad 0 0]) 0x00000048 0x0030D400 0x000186A0) (fun t =>
      t.calv && t.imaxUa == 3200000 && t.rshUohm == 100000 && t.calreg == 0x1062 && t.pwrLsb == 64000000) = true := by decide

/-- V-D58a, V-D47a: the edge of the domain. -/
theorem test_mcal_domain :
    gives (present (start .cw [good 0 0 0]) 0x00000048 0x0016235F 0x00003724) true 0 0 [wr 0x80 0x05 [0xFF, 0xFF] true] = true ∧
    refuses (present (start .cw []) 0x00000048 57047789 359) .calibrationOutsideDomain = true := by decide

/-- V-D59, V-D59a. -/
theorem test_mrst :
    gives (present (start .cw [good 0 0 0]) 0x00000049 0 0) true 0 0 [wr 0x80 0x00 [0x80, 0x00] true] = true ∧
    gives (present (start .cw [bad 0 0]) 0x00000049 0 0) false 1 0 [wr 0x80 0x00 [0x80, 0x00] false] = true := by decide

/-- V-D61 to V-D69. -/
theorem test_illegal :
    ([⟨0x00000000, 0, 0⟩, ⟨0x000000FF, 0, 0⟩, ⟨0x000B0001, 1, 0⟩, ⟨0x00010005, 0, 0⟩, ⟨0x010B0001, 0, 0⟩, ⟨0x000B0401, 0, 0⟩,
      ⟨0x00000144, 0, 0⟩, ⟨0x00080221, 0x0C, 0x08⟩] : List Command).all
      (fun c => gives (present (start .cw []) c.cw c.opa c.opb) false 3 0 []) = true := by decide

/-- V-D47 to V-D49c. -/
theorem test_calval :
    calval 1450847 14116 = 0xFFFF ∧ calval 163840000 131072 = 63 ∧ calval 3200000 100000 = 0x1062 ∧
    calval 2000000 100000 = 0x1A37 ∧ calval 1000000 100000 = 0x346E ∧ calval 400000 100000 = 0x8312 := by decide

/-- V-D47a, V-D49d. -/
theorem test_cal_domain : calDefined 57047789 359 = false ∧ calDefined 200000 100000 = false ∧ calDefined 0 100000 = false := by
  decide

/-- V-D70. -/
theorem test_reset :
    (start .ccw []).encReg = ⟨⟨0⟩, 0x6C, 100⟩ ∧ (start .ccw []).monReg = ⟨⟨0⟩, 0x80, 100⟩ ∧ dirCode (start .ccw []).dir = 1 ∧
    (start .ccw []).busy = false ∧ (start .ccw []).calv = false ∧ (start .ccw []).bus = [] := by decide

/-- Past the listed answers the environment's are free: the command completes all the same. -/
theorem test_runs_on_free_answers : ∃ t, present (start .cw []) 0x000B0001 0 0 = .next t := ⟨_, rfl⟩

/-- V-S1, V-D29b, P2 step 6: what the pseudo-instructions stand for. -/
theorem test_pseudo :
    expand (tc0 .cw) (.encSet .hyst 0x08) = .fsetb .enc 0x08 0x0C 0x08 ∧
    expand (tc0 .cw) (.encGet .pwmf) = .fgetb .enc 0x08 0xC0 ∧ expand (tc0 .cw) (.encGet .fth) = .fgetb .enc 0x07 0x1C ∧
    expand (tc0 .cw) (.monSet .mode 0x0003) = .fsetw .mon 0x00 0x0007 0x0003 ∧
    expand (tc0 .cw) (.monGet .pga) = .fgetw .mon 0x00 0x1800 := by decide

/-- The assembler lines of V-S1, V-D7, V-D11, V-D58 and P1 step 7. -/
theorem test_assembler :
    asmText (.wrw .mon 0x05 0x1062) = "WRW mon, 0x05, 0x1062" ∧ asmText (.mskb 0xB7 0x0C true) = "MSKB 0xB7, 0x0C, inv" ∧
    asmText (.mcal 3200000 100000) = "MCAL 3200000, 100000" ∧ asmText (.egreal .deg) = "EGREAL deg" ∧
    asmPseudo (.encSet .hyst 0x08) = "ESHYST 0x08" := by decide

/-! ## Every obligation with hypotheses has a state and operands that meet them

The outcome of a transaction is a hypothesis of most statements: under TC0 the limit is 100 time units (300 for a ready
check), so an answer at 99 succeeds, one at 100 is too late, and one that says not-acknowledged fails. -/

/-- Answers at the last moment. -/
def sIn : State := start .cw [good 99 0x12 0x34, good 99 0x56 0x78]

/-- Answers one unit too late. -/
def sLate : State := start .cw [good 100 0x12 0x34, good 100 0x56 0x78]

/-- Answers that are failures. -/
def sFail : State := start .ccw [bad 0x12 0x34, bad 0x56 0x78]

/-- Both outcomes of the next transaction and of the one after it, at the boundary, for both handles. -/
theorem witness_outcomes (h : Handle) :
    Succeeds sIn h 0 ∧ Succeeds sIn h 1 ∧ ¬ Succeeds sLate h 0 ∧ ¬ Succeeds sLate h 1 ∧ ¬ Succeeds sFail h 0 ∧
      ¬ Succeeds sFail h 1 := by
  simp only [Succeeds]
  cases h <;> decide

/-- The first transaction succeeds and the second fails. -/
theorem witness_second_fails : Succeeds (start .cw [good 0 1 2, bad 3 4]) .mon 0 ∧ ¬ Succeeds (start .cw [good 0 1 2, bad 3 4]) .mon 1 := by
  simp only [Succeeds]
  decide

/-- A command of a row at the largest operands it admits, and commands one bit outside it: a reserved bit of `cw`, and operands
one too large where the signature leaves room. -/
def rowWitness (op mask : U32) (na nb : Nat) : Bool :=
  let legal := fun c : Command => decide (c.cw &&& mask = op ∧ c.opa.toNat < 2 ^ na ∧ c.opb.toNat < 2 ^ nb)
  let isRow := fun c : Command => decide (c.cw &&& 0xFF = op)
  let top : Command := ⟨op ||| ~~~mask, BitVec.ofNat 32 (2 ^ na - 1), BitVec.ofNat 32 (2 ^ nb - 1)⟩
  let high : Command := ⟨op ||| 0x80000000, 0, 0⟩
  let wideA : Command := ⟨op, BitVec.ofNat 32 (2 ^ na), 0⟩
  let wideB : Command := ⟨op, 0, BitVec.ofNat 32 (2 ^ nb)⟩
  isRow top && legal top && isRow high && !legal high && (na == 32 || (isRow wideA && !legal wideA)) &&
    (nb == 32 || (isRow wideB && !legal wideB))

/-- Any command can be presented to an RTB that is free. -/
theorem witness_presents (c : Command) : Presents { sIn with host := [c] } c := ⟨rfl, rfl⟩

theorem witness_EncodeOfDecodeIsTheCommand : decode ⟨0x00FF0104, 0xFFFF, 0⟩ = .ok (.wrw .mon 0xFF 0xFFFF) := by decide

/-- A legal command, an opcode in no row, and each failing check with those before it passed. -/
theorem witness_DecoderNamesTheFirstFailingCheck :
    Command.wf ⟨0x000B0001, 0, 0⟩ = true ∧ Command.row? ⟨0x00000006, 0, 0⟩ = none ∧
    Command.row? ⟨0x000B0201, 1, 1⟩ = some ⟨0x01, .ha, 0, 0⟩ ∧ Format.reservedZero .ha 0x000B0201 = false ∧
    Format.reservedZero .ha 0x000B0001 = true ∧ operandFits 0 1 = false ∧ operandFits 0 0 = true ∧
    operandFits 8 0x100 = false ∧ operandFits 8 0xFF = true ∧ operandFits 32 0xFFFFFFFF = true := by decide

theorem witness_StepRunsTheDecodedCommand :
    Presents { sIn with host := [⟨0x000B0001, 0, 0⟩] } ⟨0x000B0001, 0, 0⟩ ∧ decode ⟨0x000B0001, 0, 0⟩ = .ok (.rdb .enc 0x0B) :=
  ⟨witness_presents _, by decide⟩

theorem witness_IllegalCommandOnlyAnswersIllegal :
    Command.wf ⟨0x000B0001, 1, 0⟩ = false ∧ Presents { sIn with host := [⟨0x000B0001, 1, 0⟩] } ⟨0x000B0001, 1, 0⟩ :=
  ⟨by decide, witness_presents _⟩

theorem witness_BusyOrUnaskedStepChangesNothing :
    State.busy { sIn with busy := true, host := [⟨0, 0, 0⟩] } = true ∧ sIn.host = [] := ⟨rfl, rfl⟩

theorem witness_ResetLoadsTheParametersForGood : ∃ t, present sIn 0x00000049 0 0 = .next t := ⟨_, rfl⟩

/-- A state with a valid calibration that meets the invariant. -/
def sInv : State := { calibrated [good 0 0 0, good 0 0x03 0xE8] with calreg := 0x1062, host := [⟨0x00000046, 0, 0⟩] }

theorem sInv_meets_the_invariant : MachineInv sInv :=
  ⟨⟨rfl, rfl, rfl⟩, ⟨rfl, rfl, rfl⟩, fun _ => ⟨by decide, by decide⟩⟩

theorem witness_StepKeepsTheMachineInvariant : MachineInv sInv ∧ ∃ t, step sInv = .next t :=
  ⟨sInv_meets_the_invariant, _, rfl⟩

/-- A refused command, and one that is not. -/
theorem witness_EveryPresentedCommandEndsInOneResponse :
    (Presents { sIn with host := [⟨0x00000046, 0, 0⟩] } ⟨0x00000046, 0, 0⟩ ∧ decode ⟨0x00000046, 0, 0⟩ = .ok .mgcur ∧
      OutsideCalibration .mgcur sIn) ∧
    Presents sInv ⟨0x00000046, 0, 0⟩ ∧ ¬ ∃ i, decode ⟨0x00000046, 0, 0⟩ = .ok i ∧ OutsideCalibration i sInv := by
  refine ⟨⟨witness_presents _, by decide, .inl rfl⟩, ⟨rfl, rfl⟩, ?_⟩
  rintro ⟨i, hi, ho⟩
  have hd : decode ⟨0x00000046, 0, 0⟩ = .ok .mgcur := by decide
  rw [hd] at hi
  cases hi
  exact ho.elim (by decide) (by decide)

/-- A step with two transactions. -/
theorem witness_StepAppendsAtMostTwoTransactions :
    endsIn (present sIn 0x00080021 0x0C 0x08) (fun t => t.bus == [rd 0x6C 0x08 [0x12], wr 0x6C 0x08 [0x1A] true]) = true := by
  decide

theorem witness_OnlyCalibrationCommandsWriteCalibration : ∃ t, exec .mgrcur sIn = .next t ∧ (∀ a b, Instr.mgrcur ≠ .mcal a b) ∧
    Instr.mgrcur ≠ .mgcur ∧ Instr.mgrcur ≠ .mgpwr :=
  ⟨_, rfl, by simp, by simp, by simp⟩

/-- Two states that differ in all a command cannot read. -/
theorem witness_StaleStateReachesNoOutcome :
    AgreeOnRead sInv { sInv with cw := 1, opa := 2, opb := 3, rok := true, rerr := .bus, rval := 4, txb0 := 5, txb1 := 6, rxb0 := 7,
                                 rxb1 := 8, calreg := 9, tst := .wait, tcnt := 10, seq := .done1 } ∧
    sInv.busy = false ∧ sInv.host ≠ [] :=
  ⟨⟨rfl, rfl, rfl, rfl, rfl, rfl, rfl, rfl, rfl, rfl, rfl, rfl⟩, rfl, by simp [sInv]⟩

/-- The loop at its smallest limit and around a limit of 3: taken at the last unit, timed out, and waiting before. -/
theorem witness_FsmLoopEndsAsXactSays :
    (1 ≤ 1 ∧ (good 0 0 0).arrives 1 = true ∧ (good 1 0 0).arrives 1 = false) ∧
    fsmIter 3 2 3 fsmStart = ⟨.idle, 2, .taken⟩ ∧ fsmIter 3 3 3 fsmStart = ⟨.idle, 3, .timedOut⟩ ∧
    fsmIter 3 3 2 fsmStart = ⟨.wait, 2, .pending⟩ ∧ fsmIter 3 2 7 fsmStart = ⟨.idle, 2, .taken⟩ := by decide

/-- `Xact` at a limit of 3: a response at the last unit, one that says failure, and one too late. -/
theorem witness_xact_of_the_loop :
    ((start .cw [good 2 0x12 0]).xact (sIn.readRequest .enc 0x0B 1) 3).bus = [rd 0x6C 0x0B [0x12]] ∧
    ((start .cw [bad 0 0]).xact (sIn.readRequest .enc 0x0B 1) 3).bus = [rdFail 0x6C 0x0B 1] ∧
    ((start .cw [good 3 0x12 0]).xact (sIn.readRequest .enc 0x0B 1) 3).bus = [rdFail 0x6C 0x0B 1] ∧
    (fsmIter 3 (start .cw [good 2 0x12 0]).answer.after 3 fsmStart).result = .taken ∧
    (fsmIter 3 (start .cw [good 3 0x12 0]).answer.after 3 fsmStart).result = .timedOut := by decide

theorem witness_RdbReadsOneByteAndReports : rowWitness 0x01 0xFF00FEFF 0 0 = true ∧ Succeeds sIn .enc 0 ∧ ¬ Succeeds sLate .mon 0 :=
  ⟨by decide, (witness_outcomes _).1, (witness_outcomes _).2.2.1⟩

theorem witness_WrbWritesOneByteAndReports : rowWitness 0x02 0xFF00FEFF 8 0 = true ∧ Succeeds sIn .enc 0 ∧ ¬ Succeeds sLate .mon 0 :=
  ⟨by decide, (witness_outcomes _).1, (witness_outcomes _).2.2.1⟩

theorem witness_RdwReadsOneWordAndReports : rowWitness 0x03 0xFF00FEFF 0 0 = true ∧ Succeeds sIn .enc 0 ∧ ¬ Succeeds sLate .mon 0 :=
  ⟨by decide, (witness_outcomes _).1, (witness_outcomes _).2.2.1⟩

theorem witness_WrwWritesOneWordAndReports : rowWitness 0x04 0xFF00FEFF 16 0 = true ∧ Succeeds sIn .enc 0 ∧ ¬ Succeeds sLate .mon 0 :=
  ⟨by decide, (witness_outcomes _).1, (witness_outcomes _).2.2.1⟩

/-- A ready check may be answered up to unit 299. -/
theorem witness_ProbeAnswersWhetherAcknowledged :
    rowWitness 0x05 0xFFFFFEFF 0 0 = true ∧ ReadySucceeds (start .cw [good 299 0 0]) .mon 0 ∧
      ¬ ReadySucceeds (start .cw [good 300 0 0]) .enc 0 := by
  simp only [ReadySucceeds]
  decide

theorem witness_MskbMasksAByte : rowWitness 0x10 0xFFFFFDFF 8 8 = true ∧ true ≠ false := by decide

theorem witness_MskwMasksAWord : rowWitness 0x11 0xFFFFFDFF 16 16 = true ∧ true ≠ false := by decide

theorem witness_CmpwComposesHighByteFirst : rowWitness 0x12 0xFFFFFFFF 8 8 = true := by decide

theorem witness_SplwPacksTheBytesInTransmissionOrder : rowWitness 0x13 0xFFFFFFFF 16 0 = true := by decide

/-- Bits within a mask, and a disjoint mask, at both widths. -/
theorem witness_MaskFunctionsPartitionAValue :
    (0x08#8 &&& ~~~0x0C#8 = 0 ∧ 0x0C#8 &&& 0xF3#8 = 0) ∧ 0x1800#16 &&& ~~~0x1800#16 = 0 ∧ 0x1800#16 &&& 0xE7FF#16 = 0 := by
  decide

theorem witness_FgetbReadsAFieldUnreported : rowWitness 0x20 0xFF00FEFF 8 0 = true ∧ Succeeds sIn .enc 0 ∧ ¬ Succeeds sLate .mon 0 :=
  ⟨by decide, (witness_outcomes _).1, (witness_outcomes _).2.2.1⟩

theorem witness_FgetwReadsAFieldUnreported : rowWitness 0x22 0xFF00FEFF 16 0 = true ∧ Succeeds sIn .enc 0 ∧ ¬ Succeeds sLate .mon 0 :=
  ⟨by decide, (witness_outcomes _).1, (witness_outcomes _).2.2.1⟩

theorem witness_SetcfgReplacesTheConfiguration : rowWitness 0x24 0xFFFFFEFF 16 0 = true ∧ Succeeds sIn .enc 0 ∧ ¬ Succeeds sLate .mon 0 :=
  ⟨by decide, (witness_outcomes _).1, (witness_outcomes _).2.2.1⟩

theorem witness_FsetbUpdatesAFieldByReadAndWrite : rowWitness 0x21 0xFF00FEFF 8 8 = true ∧ ¬ Succeeds sLate .enc 0 ∧
    (Succeeds sIn .mon 0 ∧ Succeeds sIn .mon 1) ∧
    Succeeds (start .cw [good 0 1 2, bad 3 4]) .mon 0 ∧ ¬ Succeeds (start .cw [good 0 1 2, bad 3 4]) .mon 1 :=
  ⟨by decide, (witness_outcomes _).2.2.1, ⟨(witness_outcomes _).1, (witness_outcomes _).2.1⟩, witness_second_fails⟩

theorem witness_FsetwUpdatesAFieldByReadAndWrite : rowWitness 0x23 0xFF00FEFF 16 16 = true ∧ ¬ Succeeds sLate .enc 0 ∧
    (Succeeds sIn .mon 0 ∧ Succeeds sIn .mon 1) ∧
    Succeeds (start .cw [good 0 1 2, bad 3 4]) .mon 0 ∧ ¬ Succeeds (start .cw [good 0 1 2, bad 3 4]) .mon 1 :=
  ⟨by decide, (witness_outcomes _).2.2.1, ⟨(witness_outcomes _).1, (witness_outcomes _).2.1⟩, witness_second_fails⟩

/-- The instance V-S1 (hysteresis 0x08 over 0xB7, read back from 0xBB), and its word form V-D27, P2 step 7. -/
theorem witness_FieldUpdatePreservesSiblings :
    (endsIn (exec (.fsetb .enc 0x08 0x0C 0x08) (start .cw [good 0 0xB7 0, good 0 0 0])) (·.rok) = true ∧
      ((start .cw [good 0 0xB7 0]).answerAt 0).data0 = 0xB7 ∧ 0x08#8 &&& ~~~0x0C#8 = 0 ∧
      ((start .cw [good 0 0xBB 0]).answerAt 0).data0 = (0xB7#8 &&& ~~~0x0C#8) ||| 0x08#8 ∧ 0x0C#8 &&& 0x03#8 = 0) ∧
    (endsIn (exec (.fsetw .mon 0x00 0x1800 0x0800) (start .cw [good 0 0x39 0x9F, good 0 0 0])) (·.rok) = true ∧
      wordOf 0x39 0x9F = 0x399F ∧ 0x0800#16 &&& ~~~0x1800#16 = 0 ∧
      ((start .cw [good 0 0x29 0x9F]).answerAt 0).data0 = hiByte 0x299F ∧
      ((start .cw [good 0 0x29 0x9F]).answerAt 0).data1 = loByte 0x299F ∧
      0x299F#16 = (0x399F#16 &&& ~~~0x1800#16) ||| 0x0800#16 ∧ 0x1800#16 &&& 0x0007#16 = 0) := by
  decide

/-- The widest field, the field of one bit at either end, and a value within a mask. -/
theorem witness_InPlaceValuesShiftBack :
    (1 ≤ 8 ∧ 0 + 8 ≤ 8 ∧ 255 < 2 ^ 8) ∧ (1 ≤ 1 ∧ 7 + 1 ≤ 8 ∧ 1 < 2 ^ 1) ∧ (0 + 1 ≤ 16 ∧ 11 + 2 ≤ 16 ∧ 3 < 2 ^ 2) ∧
    fieldMask 16 2 11 = 0x1800 ∧ 0x0800#16 &&& ~~~fieldMask 16 2 11 = 0 := by decide

theorem witness_FieldsOfOneRegisterAreDisjoint :
    (tc0 .cw).admitted = true ∧ EncField.pm ≠ .outs ∧
    encFieldAddr (tc0 .cw) .pm = encFieldAddr (tc0 .cw) .outs ∧ MonField.vr ≠ .mode := by decide

theorem witness_EgrawReadsTheRawAngle : rowWitness 0x30 0xFFFFFFFF 0 0 = true ∧ (sIn.dir = .cw ∧ Succeeds sIn .enc 0) ∧
    sFail.dir = .ccw ∧ ¬ Succeeds sFail .enc 0 :=
  ⟨by decide, ⟨rfl, (witness_outcomes _).1⟩, rfl, (witness_outcomes _).2.2.2.2.1⟩

theorem witness_EgangReadsTheFilteredAngle : rowWitness 0x31 0xFFFFFFFF 0 0 = true ∧ (sIn.dir = .cw ∧ Succeeds sIn .enc 0) ∧
    sFail.dir = .ccw ∧ ¬ Succeeds sFail .enc 0 :=
  ⟨by decide, ⟨rfl, (witness_outcomes _).1⟩, rfl, (witness_outcomes _).2.2.2.2.1⟩

theorem witness_EgrealScalesTheCorrectedAngle : rowWitness 0x32 0xFFFFFDFF 0 0 = true ∧ (sIn.dir = .cw ∧ Succeeds sIn .enc 0) ∧
    sFail.dir = .ccw ∧ ¬ Succeeds sFail .enc 0 :=
  ⟨by decide, ⟨rfl, (witness_outcomes _).1⟩, rfl, (witness_outcomes _).2.2.2.2.1⟩

/-- The last accepted value and the first rejected one. -/
theorem witness_PositionSettersCheckTheRangeFirst :
    (rowWitness 0x33 0xFFFFFFFF 16 0 && rowWitness 0x34 0xFFFFFFFF 16 0 && rowWitness 0x35 0xFFFFFFFF 16 0) = true ∧
    (0x0FFF#16).toNat ≤ 0x0FFF ∧ 0x0FFF < (0x1000#16).toNat ∧ Succeeds sIn .enc 0 ∧ ¬ Succeeds sLate .enc 0 :=
  ⟨by decide, by decide, by decide, (witness_outcomes _).1, (witness_outcomes _).2.2.1⟩

/-- A status byte equal to a flag and one that is not. -/
theorem witness_MagnetQueriesCompareTheWholeByte :
    (rowWitness 0x36 0xFFFFFFFF 0 0 && rowWitness 0x37 0xFFFFFFFF 0 0 && rowWitness 0x38 0xFFFFFFFF 0 0) = true ∧
    Byte0 (start .cw [good 0 0x20 0]) .enc 0 (tc0 .cw).encStMd ∧ Byte0 (start .cw [bad 0x21 0]) .enc 0 0x21 ∧
    (0x21 : U8) ≠ (tc0 .cw).encStMd := by
  simp only [Byte0, Succeeds]
  decide

/-- V-S7. -/
theorem witness_TwoStatusFlagsAnswerFalse :
    (tc0 .cw).admitted = true ∧ Succeeds (start .cw [good 0 0x30 0]) .enc 0 ∧ (tc0 .cw).encStMd ≠ (tc0 .cw).encStMl ∧
    (0x30 : U8) &&& (tc0 .cw).encStMd ≠ 0 ∧ (0x30 : U8) &&& (tc0 .cw).encStMl ≠ 0 := by
  simp only [Succeeds]
  decide

theorem witness_RoundedDivisionIsNearestTieUp : 0 < 1 ∧ rdiv 5 2 = 3 ∧ rdiv 0 1 = 0 := by decide

/-- V-D47, V-D47a: the smallest product inside the domain, and one less. -/
theorem witness_CalibrationValueAndItsDomain :
    20480156252 ≤ (1450847#32).toNat * (14116#32).toNat ∧ ¬ 20480156252 ≤ (57047789#32).toNat * (359#32).toNat ∧
    ¬ 0 < (0#32).toNat * (359#32).toNat := by decide

theorem witness_MgrbusScalesTheBusRegister : rowWitness 0x40 0xFFFFFFFF 0 0 = true ∧ Succeeds sIn .mon 0 ∧ ¬ Succeeds sLate .mon 0 :=
  ⟨by decide, (witness_outcomes _).1, (witness_outcomes _).2.2.1⟩

/-- The largest positive word and the most negative one, read and drawn. -/
theorem witness_signed_words :
    Word0 (start .cw [good 0 0x7F 0xFF]) .mon 0 0x7FFF ∧ Word0 (start .cw [bad 0x80 0x00]) .mon 0 0x8000 ∧
    (0x7FFF#16).toNat < 0x8000 ∧ 0x8000 ≤ (0x8000#16).toNat := by
  simp only [Word0, Succeeds]
  decide

theorem witness_RawReadsAreSigned :
    (rowWitness 0x41 0xFFFFFFFF 0 0 && rowWitness 0x42 0xFFFFFFFF 0 0 && rowWitness 0x43 0xFFFFFFFF 0 0) = true ∧
    Word0 (start .cw [good 0 0x7F 0xFF]) .mon 0 0x7FFF ∧ Word0 (start .cw [bad 0x80 0x00]) .mon 0 0x8000 :=
  ⟨by decide, witness_signed_words.1, witness_signed_words.2.1⟩

/-- The overflow bit set and clear (V-S6). -/
theorem witness_MgbusvTestsTheOverflowBitOnly :
    rowWitness 0x44 0xFFFFFFFF 0 0 = true ∧ Word0 (start .cw [good 0 0x1F 0x41]) .mon 0 0x1F41 ∧
    (0x1F41 : U16) &&& (tc0 .cw).monBusOvf ≠ 0 ∧ Word0 (start .cw [good 0 0x1F 0x42]) .mon 0 0x1F42 ∧
    (0x1F42 : U16) &&& (tc0 .cw).monBusOvf = 0 := by
  simp only [Word0, Succeeds]
  decide

theorem witness_MgshvScalesTheShuntRegister :
    rowWitness 0x45 0xFFFFFFFF 0 0 = true ∧ Word0 (start .cw [good 0 0x7F 0xFF]) .mon 0 0x7FFF ∧
    Word0 (start .cw [bad 0x80 0x00]) .mon 0 0x8000 :=
  ⟨by decide, witness_signed_words.1, witness_signed_words.2.1⟩

/-- A valid calibration at the edge of the domain, with the second answer a word of either sign. -/
def sEdge (a : Answer) : State := (start .cw [good 0 0 0, a]).setCalibration 1450847 14116

theorem witness_edge_of_domain (a : Answer) :
    (sEdge a).calv = true ∧ 20480156252 ≤ (sEdge a).imaxUa.toNat * (sEdge a).rshUohm.toNat := by
  constructor
  · rfl
  · show 20480156252 ≤ (1450847#32).toNat * (14116#32).toNat
    decide

theorem witness_edge_words :
    Word0 (sEdge (good 0 0x7F 0xFF)) .mon 1 0x7FFF ∧ Word0 (sEdge (bad 0x80 0x00)) .mon 1 0x8000 := by
  simp only [Word0, Succeeds]
  decide

theorem witness_MgcurRecalibratesThenScales :
    rowWitness 0x46 0xFFFFFFFF 0 0 = true ∧
    (∀ a, (sEdge a).calv = true ∧ 20480156252 ≤ (sEdge a).imaxUa.toNat * (sEdge a).rshUohm.toNat) ∧
    Word0 (sEdge (good 0 0x7F 0xFF)) .mon 1 0x7FFF ∧ Word0 (sEdge (bad 0x80 0x00)) .mon 1 0x8000 :=
  ⟨by decide, witness_edge_of_domain, witness_edge_words.1, witness_edge_words.2⟩

theorem witness_MgpwrRecalibratesThenScales :
    rowWitness 0x47 0xFFFFFFFF 0 0 = true ∧
    (∀ a, (sEdge a).calv = true ∧ 20480156252 ≤ (sEdge a).imaxUa.toNat * (sEdge a).rshUohm.toNat) ∧
    Word0 (sEdge (good 0 0x7F 0xFF)) .mon 1 0x7FFF ∧ Word0 (sEdge (bad 0x80 0x00)) .mon 1 0x8000 :=
  ⟨by decide, witness_edge_of_domain, witness_edge_words.1, witness_edge_words.2⟩

theorem witness_McalStoresAndSendsTheCalibration :
    rowWitness 0x48 0xFFFFFFFF 32 32 = true ∧ 20480156252 ≤ (1450847#32).toNat * (14116#32).toNat ∧
    20480156252 ≤ (0xFFFFFFFF#32).toNat * (0xFFFFFFFF#32).toNat := by decide

theorem witness_MrstWritesTheResetBit : rowWitness 0x49 0xFFFFFFFF 0 0 = true ∧ Succeeds sIn .mon 0 ∧ ¬ Succeeds sLate .mon 0 :=
  ⟨by decide, (witness_outcomes _).1, (witness_outcomes _).2.2.1⟩

/-- No calibration, an operand of zero, one product below the domain, and a stored calibration there. -/
theorem witness_CalibrationOutsideTheSpecIsRefused :
    sIn.calv = false ∧ (0#32).toNat * (100000#32).toNat < 20480156252 ∧
    (57047789#32).toNat * (359#32).toNat < 20480156252 ∧ (sIn.setCalibration 57047789 359).calv = true := by decide

theorem witness_CountsTimesLsbAreTheSourceFormulas :
    (0x1F42 : U16) &&& (tc0 .cw).monBusOvf = 0 ∧ (0xFFFF : U16) &&& (tc0 .cw).monBusOvf ≠ 0 := by decide

/-- A getter with a calibration of its own, valid, and one without. -/
theorem witness_GettersNeverReportABusFailure :
    IsGetter .mgcur ∧ ¬ OutsideCalibration .mgcur sInv ∧ IsGetter .egraw ∧ ¬ OutsideCalibration .egraw sFail :=
  ⟨trivial, fun ho => ho.elim (by decide) (by decide), trivial, id⟩

end Sys2Proof.Tests
end

section
/-! Rounded division (rule R17): `rdiv a b` is determined by two bounds that no longer divide. -/

namespace Sys2Proof.Machine

variable {a b q : Nat}

theorem le_rdiv_iff (hb : 0 < b) : q ≤ rdiv a b ↔ 2 * b * q ≤ 2 * a + b := by
  have h2b : 0 < 2 * b := by omega
  rw [rdiv, Nat.le_div_iff_mul_le h2b, Nat.mul_comm]

theorem rdiv_le_iff (hb : 0 < b) : rdiv a b ≤ q ↔ 2 * a + b < 2 * b * (q + 1) := by
  rw [← Nat.lt_succ_iff, ← Nat.not_le, le_rdiv_iff hb, Nat.not_le]

end Sys2Proof.Machine

namespace Sys2Proof.Proofs

open Sys2Proof.Machine

/-- Settles O44: the floor formula is the definition, and both bounds are the two characterisations
of `rdiv` at the quotient itself. -/
theorem roundedDivisionIsNearestTieUp : Obligations.RoundedDivisionIsNearestTieUp := by
  intro a b hb
  have lower : 2 * b * rdiv a b ≤ 2 * a + b := (le_rdiv_iff hb).1 le_rfl
  have upper : 2 * a + b < 2 * b * (rdiv a b + 1) := (rdiv_le_iff hb).1 le_rfl
  exact ⟨rfl, lower, upper⟩

end Sys2Proof.Proofs
end

section
/-! Commands as bus programs. Every command is a short program over the bus primitives (`10_state.md`, `40_transport.md`),
alone, after a re-calibration, or with a calibration of its own. `step_eq_run` says so once; what every step keeps is then
proved for the few constructors of a program. -/

namespace Sys2Proof.Machine

/-- A program that makes at most `n` transactions and ends in a response. It sees of the machine only what the
primitives return: the bytes of a read and the outcomes. -/
inductive BusProgram : Nat → Type where
  | respond {n : Nat} (err : Err) (val : U64) : BusProgram n
  | read {n : Nat} (h : Handle) (addr : U8) (len : Nat) (k : U8 → U8 → Bool → BusProgram n)
      (hlen : len ≤ 2 := by decide) : BusProgram (n + 1)
  | write1 {n : Nat} (h : Handle) (addr b : U8) (k : Bool → BusProgram n) : BusProgram (n + 1)
  | write2 {n : Nat} (h : Handle) (addr : U8) (w : U16) (k : Bool → BusProgram n) : BusProgram (n + 1)
  | ready {n : Nat} (h : Handle) (k : Bool → BusProgram n) : BusProgram (n + 1)

/-- The program's run, on the model's own primitives. -/
def BusProgram.run {n : Nat} (p : BusProgram n) (s : State) : State :=
  match p with
  | .respond err val => s.respond err val
  | .read h addr len k _ =>
    (k (memRead h addr len s).byte0 (memRead h addr len s).byte1 (memRead h addr len s).ok).run (memRead h addr len s).state
  | .write1 h addr b k => (k (memWrite1 h addr b s).ok).run (memWrite1 h addr b s).state
  | .write2 h addr w k => (k (memWrite2 h addr w s).ok).run (memWrite2 h addr w s).state
  | .ready h k => (k (busReady h s).ok).run (busReady h s).state

/-- What a command does after acceptance (rule R84). -/
inductive Plan where
  /-- A program alone. -/
  | bus (p : BusProgram 2)
  /-- `recal()` and then a program, for a usable stored calibration (R168, R179, R180). -/
  | onRecal (p : BusProgram 1)
  /-- A calibration stored and sent (R181). -/
  | calibrate (imaxUa rshUohm : U32)

def Plan.run (s : State) : Plan → Host.Outcome State Fault Refusal
  | .bus p => .next (p.run s)
  | .onRecal p =>
    match s.calibrationProblem with
    | some e => .refused e
    | none => .next (p.run (recal s))
  | .calibrate imaxUa rshUohm =>
    if calDefined imaxUa rshUohm = true then .next ((recal (s.setCalibration imaxUa rshUohm)).respond .none 0)
    else .refused .calibrationOutsideDomain

/-! ### The commands' programs -/

section
variable {n : Nat} (cfg : Params)

/-- Completion with the outcome and no value (rule R79). -/
def BusProgram.report (ok : Bool) : BusProgram n := .respond (Err.ofBus ok) 0

/-- A two-byte read of a symbolic register, answered by a function of the word (rule R200). -/
def BusProgram.getWord (r : SymReg) (f : U16 → U64) : BusProgram (n + 1) :=
  .read (symHandle r) (symAddr cfg r) 2 fun b0 b1 _ => .respond .none (f (wordOf b0 b1))

/-- `setpos` (rule R144). -/
def BusProgram.setPosition (r : SymReg) (value : U16) : BusProgram (n + 1) :=
  if maxPosition < value then .respond .range 0 else .write2 .enc (symAddr cfg r) value .report

/-- `magq` (rule R148). -/
def BusProgram.queryMagnet (flag : U8) : BusProgram (n + 1) :=
  .read .enc cfg.encStatus 1 fun b0 _ _ => .respond .none (boolVal (b0 == flag))

end

open BusProgram in
/-- The plan of each command: of the machine it takes only the parameters, `DIR` and `IMAX_UA`. -/
def plan (cfg : Params) (dir : Dir) (imaxUa : U32) : Instr → Plan
  | .rdb h addr => .bus (.read h addr 1 fun b0 _ ok => .respond (.ofBus ok) (zext64 b0))
  | .wrb h addr data => .bus (.write1 h addr data report)
  | .rdw h addr => .bus (.read h addr 2 fun b0 b1 ok => .respond (.ofBus ok) (zext64 (wordOf b0 b1)))
  | .wrw h addr data => .bus (.write2 h addr data report)
  | .probe h => .bus (.ready h fun ok => .respond .none (boolVal ok))
  | .mskb value mask invert => .bus (.respond .none (zext64 (maskByte value mask invert)))
  | .mskw value mask invert => .bus (.respond .none (zext64 (maskWord value mask invert)))
  | .cmpw b0 b1 => .bus (.respond .none (zext64 (wordOf b0 b1)))
  | .splw w => .bus (.respond .none (zext64 (((byte1 w).setWidth 16 <<< 8) ||| (byte0 w).setWidth 16)))
  | .fgetb h addr mask => .bus (.read h addr 1 fun b0 _ _ => .respond .none (zext64 (maskByte b0 mask false)))
  | .fsetb h addr mask bits => .bus (.read h addr 1 fun b0 _ ok =>
      if ok = false then .respond .bus 0 else .write1 h addr (updateByte b0 mask bits) report)
  | .fgetw h addr mask => .bus (.read h addr 2 fun b0 b1 _ => .respond .none (zext64 (maskWord (wordOf b0 b1) mask false)))
  | .fsetw h addr mask bits => .bus (.read h addr 2 fun b0 b1 ok =>
      if ok = false then .respond .bus 0 else .write2 h addr (updateWord (wordOf b0 b1) mask bits) report)
  | .setcfg h value => .bus (.write2 h (symAddr cfg (configReg h)) value report)
  | .egraw => .bus (getWord cfg .encRawAngle fun w => zext64 (dircorr dir w))
  | .egang => .bus (getWord cfg .encAngle fun w => zext64 (dircorr dir w))
  | .egreal unit => .bus (getWord cfg .encAngle fun w => u64 (angleCount unit (dircorr dir w)))
  | .eszpos value => .bus (setPosition cfg .encZpos value)
  | .esmpos value => .bus (setPosition cfg .encMpos value)
  | .esmang value => .bus (setPosition cfg .encMang value)
  | .emdet => .bus (queryMagnet cfg cfg.encStMd)
  | .emstr => .bus (queryMagnet cfg cfg.encStMh)
  | .emweak => .bus (queryMagnet cfg cfg.encStMl)
  | .mgrbus => .bus (getWord cfg .monBus fun w => u64 (busmv w))
  | .mgrshv => .bus (getWord cfg .monShunt fun w => u64 (s16 w))
  | .mgrcur => .bus (getWord cfg .monCurrent fun w => u64 (s16 w))
  | .mgrpwr => .bus (getWord cfg .monPower fun w => u64 (s16 w))
  | .mgbusv => .bus (getWord cfg .monBus fun w => u64 (busVoltage cfg.monBusOvf w))
  | .mgshv => .bus (getWord cfg .monShunt fun w => u64 (s16 w * 10))
  | .mgcur => .onRecal (getWord cfg .monCurrent fun w => u64 (s16 w * (imaxUa.toNat : Int)))
  | .mgpwr => .onRecal (getWord cfg .monPower fun w => u64 (s16 w * ((20 * imaxUa.setWidth 37 : BitVec 37).toNat : Int)))
  | .mcal imaxUa rshUohm => .calibrate imaxUa rshUohm
  | .mrst => .bus (.write2 .mon cfg.monConfig cfg.monCfgRst report)

theorem BusProgram.run_ite {n : Nat} (c : Prop) [Decidable c] (p q : BusProgram n) (s : State) :
    (if c then p else q).run s = if c then p.run s else q.run s :=
  apply_ite (fun r : BusProgram n => r.run s) c p q

theorem BusProgram.run_setPosition {n : Nat} (s : State) (r : SymReg) (value : U16) :
    (BusProgram.setPosition (n := n) s.cfg r value).run s = setpos r value s :=
  BusProgram.run_ite ..

/-- The plans are the commands' meanings. Only where the model chooses between two final states (a failed first read, a
position out of range) does the choice move from the state to the program. -/
theorem exec_eq_run_plan (i : Instr) (s : State) : exec i s = (plan s.cfg s.dir s.imaxUa i).run s := by
  cases i with
  | fsetb h addr mask bits =>
    simp only [plan, Plan.run, BusProgram.run, BusProgram.run_ite]
    rfl
  | fsetw h addr mask bits =>
    simp only [plan, Plan.run, BusProgram.run, BusProgram.run_ite]
    rfl
  | eszpos value => exact congrArg Host.Outcome.next (BusProgram.run_setPosition ..).symm
  | esmpos value => exact congrArg Host.Outcome.next (BusProgram.run_setPosition ..).symm
  | esmang value => exact congrArg Host.Outcome.next (BusProgram.run_setPosition ..).symm
  | _ => rfl

/-- Only `MGCUR`, `MGPWR` and `MCAL` are more than a program on the bus. -/
theorem plan_cases (cfg : Params) (dir : Dir) (imaxUa : U32) (i : Instr) :
    (∃ p, plan cfg dir imaxUa i = .bus p) ∨
      ((i = .mgcur ∨ i = .mgpwr) ∧ ∃ p, plan cfg dir imaxUa i = .onRecal p) ∨ ∃ a b, i = .mcal a b := by
  cases i with
  | mgcur => exact .inr (.inl ⟨.inl rfl, _, rfl⟩)
  | mgpwr => exact .inr (.inl ⟨.inr rfl, _, rfl⟩)
  | mcal a b => exact .inr (.inr ⟨a, b, rfl⟩)
  | _ => exact .inl ⟨_, rfl⟩

theorem Plan.run_onRecal_eq_next {p : BusProgram 1} {s t : State} (h : (Plan.onRecal p).run s = .next t) :
    t = p.run (recal s) := by
  simp only [Plan.run] at h
  split at h <;> cases h
  rfl

theorem Plan.run_calibrate_eq_next {i r : U32} {s t : State} (h : (Plan.calibrate i r).run s = .next t) :
    calDefined i r = true ∧ t = (recal (s.setCalibration i r)).respond .none 0 := by
  simp only [Plan.run] at h
  split at h <;> cases h
  exact ⟨‹_›, rfl⟩

/-! ### The step -/

/-- The plan of a command triple: an illegal one only answers (rules R84 and R198). -/
def commandPlan (cfg : Params) (dir : Dir) (imaxUa : U32) (c : Command) : Plan :=
  match decode c with
  | .ok i => plan cfg dir imaxUa i
  | .error _ => .bus (.respond .illegal 0)

theorem step_of_no_command {s : State} (h : s.nextCommand = none) : step s = .next s := by
  rw [step, h]

/-- A step that accepts a command runs its plan at the accepting state (rules R76 and R84). -/
theorem step_eq_run {s : State} {c : Command} (h : s.nextCommand = some c) :
    step s = (commandPlan s.cfg s.dir s.imaxUa c).run (s.popHost.accept c) := by
  have latched : (s.popHost.accept c).latched = c := rfl
  rw [step, h, commandPlan]
  simp only [latched]
  cases decode c with
  | ok i => exact exec_eq_run_plan i _
  | error e => rfl

/-- A step that answers a next state either found no command or ran a plan. -/
theorem step_cases {s t : State} (h : step s = .next t) :
    t = s ∨ ∃ (c : Command) (p : Plan), p.run (s.popHost.accept c) = .next t := by
  cases hc : s.nextCommand with
  | none =>
    rw [step_of_no_command hc] at h
    cases h
    exact .inl rfl
  | some c => exact .inr ⟨c, _, (step_eq_run hc).symm.trans h⟩

theorem nextCommand_ne_none {s : State} (busy : s.busy = false) (host : s.host ≠ []) : s.nextCommand ≠ none := by
  simpa [State.nextCommand, busy] using host

end Sys2Proof.Machine
end

section
/-! What every step keeps (rules R33 to R43): the handle registers, `DIR` and the parameters, the idle FSM, and the
transactions already made, to which it appends conforming ones. -/

namespace Sys2Proof.Machine

/-- A transaction as rules R55, R56, R61, R66 and R100 give it for some handle of `s`. -/
structure Conforms (s : State) (tr : Transaction) : Prop where
  handle : ∃ h, tr.req.bus = (s.handle h).bus ∧ tr.req.dev = (s.handle h).dev ∧ tr.req.time = (s.handle h).tmo
  size : tr.req.n ≤ 2
  sent : tr.req.kind = .memWrite → tr.req.wdata.length = tr.req.n
  notSent : tr.req.kind ≠ .memWrite → tr.req.wdata = []
  received : tr.rsp.ok = true → tr.req.kind = .memRead → tr.rsp.rdata.length = tr.req.n
  notReceived : ¬ (tr.rsp.ok = true ∧ tr.req.kind = .memRead) → tr.rsp.rdata = []

theorem response_length {a : Answer} {q : BusRequest} {l : Nat} (hn : q.n ≤ 2) (hok : (a.response q l).ok = true)
    (hk : q.kind = .memRead) : (a.response q l).rdata.length = q.n := by
  have hs : a.succeeds l = true := hok
  simp [response_of_succeeds hs, hk, hn]

theorem response_empty {a : Answer} {q : BusRequest} {l : Nat}
    (h : ¬ ((a.response q l).ok = true ∧ q.kind = .memRead)) : (a.response q l).rdata = [] := by
  cases hs : a.succeeds l with
  | false => rw [response_of_fails hs]
  | true =>
    have hk : q.kind ≠ .memRead := fun hk => h ⟨hs, hk⟩
    simp [response_of_succeeds hs, hk]

section
variable (s : State) (h : Handle) (addr : U8) (a : Answer) (l : Nat)

theorem readRequest_conforms {n : Nat} (hn : n ≤ 2) :
    Conforms s ⟨s.readRequest h addr n, a.response (s.readRequest h addr n) l⟩ :=
  ⟨⟨h, rfl, rfl, rfl⟩, hn, nofun, fun _ => rfl, response_length hn, response_empty⟩

theorem writeRequest_conforms {wdata : List U8} (hn : wdata.length ≤ 2) :
    Conforms s ⟨s.writeRequest h addr wdata, a.response (s.writeRequest h addr wdata) l⟩ :=
  ⟨⟨h, rfl, rfl, rfl⟩, hn, fun _ => rfl, fun hk => absurd rfl hk, response_length hn, response_empty⟩

theorem readyRequest_conforms : Conforms s ⟨s.readyRequest h, a.response (s.readyRequest h) l⟩ :=
  ⟨⟨h, rfl, rfl, rfl⟩, Nat.zero_le 2, nofun, fun _ => rfl, response_length (Nat.zero_le 2), response_empty⟩

end

/-- From `s` to `t` at most `n` conforming transactions were made; the handle registers, `DIR`, the parameters and an idle FSM
are as before. -/
structure Ran (n : Nat) (s t : State) : Prop where
  encReg : t.encReg = s.encReg
  monReg : t.monReg = s.monReg
  dir : t.dir = s.dir
  cfg : t.cfg = s.cfg
  idle : s.tst = .idle → t.tst = .idle
  bus : ∃ trs, t.bus = s.bus ++ trs ∧ trs.length ≤ n ∧ ∀ tr ∈ trs, Conforms s tr

theorem Conforms.congr {s t : State} {tr : Transaction} (c : Conforms t tr) (e : t.encReg = s.encReg)
    (m : t.monReg = s.monReg) : Conforms s tr := by
  have handle := c.handle
  simp only [State.handle_congr e m] at handle
  exact { c with handle := handle }

theorem Ran.of_bus_eq {s t : State} (n : Nat) (encReg : t.encReg = s.encReg) (monReg : t.monReg = s.monReg)
    (dir : t.dir = s.dir) (cfg : t.cfg = s.cfg) (tst : t.tst = s.tst) (bus : t.bus = s.bus) : Ran n s t :=
  ⟨encReg, monReg, dir, cfg, tst.trans, [], by simp [bus], Nat.zero_le n, nofun⟩

theorem Ran.trans {m n : Nat} {s t u : State} (h : Ran m s t) (k : Ran n t u) : Ran (n + m) s u := by
  obtain ⟨trs, hbus, hlen, hall⟩ := h.bus
  obtain ⟨trs', kbus, klen, kall⟩ := k.bus
  have conforms : ∀ tr ∈ trs ++ trs', Conforms s tr := by
    intro tr htr
    rcases List.mem_append.mp htr with hm | hm
    · exact hall tr hm
    · exact (kall tr hm).congr h.encReg h.monReg
  exact ⟨k.encReg.trans h.encReg, k.monReg.trans h.monReg, k.dir.trans h.dir, k.cfg.trans h.cfg,
    fun hi => k.idle (h.idle hi), trs ++ trs', by rw [kbus, hbus, List.append_assoc],
    by rw [List.length_append]; omega, conforms⟩

theorem Transacted.ran {s t : State} {tr : Transaction} {k : Nat} (h : Transacted s t [tr] k) (f : KeepsFixed s t)
    (c : Conforms s tr) : Ran 1 s t :=
  ⟨f.encReg, f.monReg, f.dir, f.cfg, fun _ => h.tst, [tr], h.bus, le_rfl, by simpa using c⟩

/-! ### The operations -/

section
variable (s : State) (h : Handle) (addr : U8)

theorem memRead_ran {n : Nat} (hn : n ≤ 2) : Ran 1 s (memRead h addr n s).state :=
  have ⟨fixed, _, _, made⟩ := memRead_frame s h addr n
  made.ran fixed (readRequest_conforms s h addr _ _ hn)

theorem memWrite1_ran (b : U8) : Ran 1 s (memWrite1 h addr b s).state :=
  have ⟨fixed, _, _, _, made⟩ := memWrite1_frame s h addr b
  made.ran fixed (writeRequest_conforms s h addr _ _ (by simp))

theorem memWrite2_ran (w : U16) : Ran 1 s (memWrite2 h addr w s).state :=
  have ⟨fixed, _, _, _, made⟩ := memWrite2_frame s h addr w
  made.ran fixed (writeRequest_conforms s h addr _ _ (by simp))

theorem busReady_ran : Ran 1 s (busReady h s).state :=
  have ⟨fixed, _, _, _, made⟩ := busReady_frame s h
  made.ran fixed (readyRequest_conforms s h _ _)

theorem respond_ran (n : Nat) (e : Err) (v : U64) : Ran n s (s.respond e v) := .of_bus_eq n rfl rfl rfl rfl rfl rfl

theorem setCalibration_ran (i r : U32) : Ran 0 s (s.setCalibration i r) := .of_bus_eq 0 rfl rfl rfl rfl rfl rfl

theorem accept_ran (c : Command) : Ran 0 s (s.popHost.accept c) := .of_bus_eq 0 rfl rfl rfl rfl rfl rfl

theorem recal_ran : Ran 1 s (recal s) :=
  have stored : Ran 0 s (s.setCalreg (calval s.imaxUa s.rshUohm)) := .of_bus_eq 0 rfl rfl rfl rfl rfl rfl
  stored.trans (memWrite2_ran ..)

end

/-! ### Programs and plans -/

theorem BusProgram.run_ran {n : Nat} (p : BusProgram n) (s : State) : Ran n s (p.run s) := by
  induction p generalizing s with
  | respond e v => exact respond_ran s _ e v
  | read h addr len k hlen ih => exact (memRead_ran s h addr hlen).trans (ih ..)
  | write1 h addr b k ih => exact (memWrite1_ran s h addr b).trans (ih ..)
  | write2 h addr w k ih => exact (memWrite2_ran s h addr w).trans (ih ..)
  | ready h k ih => exact (busReady_ran s h).trans (ih ..)

theorem BusProgram.run_keepsCalibration {n : Nat} (p : BusProgram n) (s : State) : KeepsCalibration s (p.run s) := by
  induction p generalizing s with
  | respond e v => exact ⟨⟨rfl, rfl, rfl⟩, rfl⟩
  | read h addr len k hlen ih =>
    have ⟨_, kept, _⟩ := memRead_frame s h addr len
    exact kept.trans (ih ..)
  | write1 h addr b k ih =>
    have ⟨_, kept, _⟩ := memWrite1_frame s h addr b
    exact kept.trans (ih ..)
  | write2 h addr w k ih =>
    have ⟨_, kept, _⟩ := memWrite2_frame s h addr w
    exact kept.trans (ih ..)
  | ready h k ih =>
    have ⟨_, kept, _⟩ := busReady_frame s h
    exact kept.trans (ih ..)

theorem BusProgram.run_responded {n : Nat} (p : BusProgram n) (s : State) : ∃ e v, Responded (p.run s) e v := by
  induction p generalizing s with
  | respond e v => exact ⟨e, v, respond_responded s e v⟩
  | read h addr len k hlen ih => exact ih ..
  | write1 h addr b k ih => exact ih ..
  | write2 h addr w k ih => exact ih ..
  | ready h k ih => exact ih ..

theorem Plan.run_ran {p : Plan} {s t : State} (h : p.run s = .next t) : Ran 2 s t := by
  cases p with
  | bus p =>
    cases h
    exact p.run_ran s
  | onRecal p =>
    rw [Plan.run_onRecal_eq_next h]
    exact (recal_ran s).trans (p.run_ran _)
  | calibrate i r =>
    rw [(Plan.run_calibrate_eq_next h).2]
    exact ((setCalibration_ran s i r).trans (recal_ran _)).trans (respond_ran _ 1 _ _)

theorem Plan.run_responded {p : Plan} {s t : State} (h : p.run s = .next t) : ∃ e v, Responded t e v := by
  cases p with
  | bus p =>
    cases h
    exact p.run_responded s
  | onRecal p =>
    rw [Plan.run_onRecal_eq_next h]
    exact p.run_responded _
  | calibrate i r =>
    rw [(Plan.run_calibrate_eq_next h).2]
    exact ⟨_, _, respond_responded _ _ _⟩

/-! ### The calibration (rules R37 to R40, R167 and R168) -/

theorem KeepsCalibration.sound {s t : State} (h : KeepsCalibration s t) (hs : CalibrationSound s) :
    CalibrationSound t := by
  rw [CalibrationSound, h.calv, h.imaxUa, h.rshUohm, h.calreg]
  exact hs

/-- `recal` makes `CALREG` sound wherever the stored parameters are in the domain. -/
theorem recal_sound {s : State} (h : s.calv = true → calDefined s.imaxUa s.rshUohm = true) :
    CalibrationSound (recal s) := by
  obtain ⟨-, inputs, -, hreg, -⟩ := recal_frame s
  rw [CalibrationSound, inputs.calv, inputs.imaxUa, inputs.rshUohm]
  exact fun hv => ⟨h hv, hreg⟩

theorem Plan.run_sound {p : Plan} {s t : State} (h : p.run s = .next t) (hs : CalibrationSound s) :
    CalibrationSound t := by
  cases p with
  | bus p =>
    cases h
    exact (p.run_keepsCalibration s).sound hs
  | onRecal p =>
    rw [Plan.run_onRecal_eq_next h]
    exact (p.run_keepsCalibration _).sound (recal_sound fun hv => (hs hv).1)
  | calibrate i r =>
    obtain ⟨dom, rfl⟩ := Plan.run_calibrate_eq_next h
    have sound : CalibrationSound (recal (s.setCalibration i r)) := recal_sound fun _ => dom
    exact sound

/-! ### The step -/

theorem step_ran {s t : State} (h : step s = .next t) : Ran 2 s t := by
  obtain rfl | ⟨c, p, hp⟩ := step_cases h
  · exact .of_bus_eq 2 rfl rfl rfl rfl rfl rfl
  · exact (accept_ran s c).trans (Plan.run_ran hp)

theorem Ran.handlesLoaded {n : Nat} {s t : State} (h : Ran n s t) (hs : HandlesLoaded s) : HandlesLoaded t :=
  ⟨by rw [h.encReg, h.cfg, hs.encReg], by rw [h.monReg, h.cfg, hs.monReg], by rw [h.dir, h.cfg, hs.dir]⟩

theorem step_quiet {s t : State} (h : step s = .next t) (hs : Quiet s) : Quiet t := by
  obtain rfl | ⟨c, p, hp⟩ := step_cases h
  · exact hs
  · obtain ⟨e, v, done⟩ := Plan.run_responded hp
    exact ⟨done.busy, (step_ran h).idle hs.tst, done.seq⟩

theorem step_calibrationSound {s t : State} (h : step s = .next t) (hs : CalibrationSound s) : CalibrationSound t := by
  obtain rfl | ⟨c, p, hp⟩ := step_cases h
  · exact hs
  · exact Plan.run_sound hp hs

end Sys2Proof.Machine

namespace Sys2Proof.Proofs

open Sys2Proof.Machine

/-- Settles O10: each of the three parts of the invariant is kept on its own. -/
theorem stepKeepsTheMachineInvariant : Obligations.StepKeepsTheMachineInvariant :=
  fun _ _ inv h => ⟨step_quiet h inv.quiet, (step_ran h).handlesLoaded inv.handles, step_calibrationSound h inv.calibration⟩

/-- Settles O12: a plan has at most two transactions by its type, and each primitive makes a conforming one. -/
theorem stepAppendsAtMostTwoTransactions : Obligations.StepAppendsAtMostTwoTransactions := by
  intro s t h
  obtain ⟨trs, hbus, hlen, hall⟩ := (step_ran h).bus
  refine ⟨trs, hbus, hlen, fun tr htr => ?_⟩
  obtain ⟨handle, size, sent, notSent, received, notReceived⟩ := hall tr htr
  exact ⟨handle, size, sent, notSent, received, notReceived⟩

/-- Settles O13: a program keeps the whole calibration state, and `recal` its inputs. -/
theorem onlyCalibrationCommandsWriteCalibration : Obligations.OnlyCalibrationCommandsWriteCalibration := by
  intro i s t h
  rw [exec_eq_run_plan] at h
  obtain ⟨p, hp⟩ | ⟨hi, p, hp⟩ | ⟨a, b, rfl⟩ := plan_cases s.cfg s.dir s.imaxUa i
  · rw [hp] at h
    cases h
    have kept := p.run_keepsCalibration s
    exact ⟨fun _ => kept.toKeepsCalInputs, fun _ _ _ => kept.calreg⟩
  · rw [hp] at h
    rw [Plan.run_onRecal_eq_next h]
    obtain ⟨-, inputs, -⟩ := recal_frame s
    exact ⟨fun _ => inputs.trans (p.run_keepsCalibration _).toKeepsCalInputs,
      fun _ notCur notPwr => absurd hi (not_or.mpr ⟨notCur, notPwr⟩)⟩
  · exact ⟨fun hne => absurd rfl (hne a b), fun hne => absurd rfl (hne a b)⟩

end Sys2Proof.Proofs
end

section
/-! Two runs (rules R31 and R46): from states that agree on what a command can read, every operation returns the same and
leaves states that agree again. -/

namespace Sys2Proof.Machine

section
variable {s t : State}

theorem AgreeOnRead.answer_eq (h : AgreeOnRead s t) : s.answer = t.answer := State.answerAt_congr h.script h.drawn 0

theorem AgreeOnRead.handle_eq (h : AgreeOnRead s t) (hd : Handle) : s.handle hd = t.handle hd :=
  State.handle_congr h.encReg h.monReg hd

theorem AgreeOnRead.memLimit_eq (h : AgreeOnRead s t) (hd : Handle) : s.memLimit hd = t.memLimit hd := by
  rw [State.memLimit, State.memLimit, h.handle_eq]

theorem AgreeOnRead.readyLimit_eq (h : AgreeOnRead s t) (hd : Handle) : s.readyLimit hd = t.readyLimit hd := by
  rw [State.readyLimit, State.readyLimit, h.handle_eq, h.cfg]

theorem AgreeOnRead.readRequest_eq (h : AgreeOnRead s t) (hd : Handle) (addr : U8) (n : Nat) :
    s.readRequest hd addr n = t.readRequest hd addr n := by
  rw [State.readRequest, State.readRequest, h.handle_eq]

theorem AgreeOnRead.writeRequest_eq (h : AgreeOnRead s t) (hd : Handle) (addr : U8) (l : List U8) :
    s.writeRequest hd addr l = t.writeRequest hd addr l := by
  rw [State.writeRequest, State.writeRequest, h.handle_eq]

theorem AgreeOnRead.readyRequest_eq (h : AgreeOnRead s t) (hd : Handle) : s.readyRequest hd = t.readyRequest hd := by
  rw [State.readyRequest, State.readyRequest, h.handle_eq, h.cfg]

theorem AgreeOnRead.calibrationProblem_eq (h : AgreeOnRead s t) : s.calibrationProblem = t.calibrationProblem := by
  rw [State.calibrationProblem, State.calibrationProblem, h.calv, h.imaxUa, h.rshUohm]

theorem AgreeOnRead.nextCommand_eq (h : AgreeOnRead s t) : s.nextCommand = t.nextCommand := by
  rw [State.nextCommand, State.nextCommand, h.busy, h.host]

/-! ### Updates -/

theorem AgreeOnRead.xact (h : AgreeOnRead s t) (q : BusRequest) (l : Nat) : AgreeOnRead (s.xact q l) (t.xact q l) :=
  ⟨h.busy, h.encReg, h.monReg, h.dir, h.calv, h.imaxUa, h.rshUohm, h.cfg, by simp [h.bus, h.answer_eq], h.host,
    by simp [h.script], by simp [h.script, h.drawn]⟩

theorem AgreeOnRead.loadRx (h : AgreeOnRead s t) (n : Nat) (ok : Bool) (a : Answer) :
    AgreeOnRead (s.loadRx n ok a) (t.loadRx n ok a) :=
  ⟨h.busy, h.encReg, h.monReg, h.dir, h.calv, h.imaxUa, h.rshUohm, h.cfg, h.bus, h.host, h.script, h.drawn⟩

theorem AgreeOnRead.loadTx1 (h : AgreeOnRead s t) (b : U8) : AgreeOnRead (s.loadTx1 b) (t.loadTx1 b) :=
  ⟨h.busy, h.encReg, h.monReg, h.dir, h.calv, h.imaxUa, h.rshUohm, h.cfg, h.bus, h.host, h.script, h.drawn⟩

theorem AgreeOnRead.loadTx2 (h : AgreeOnRead s t) (b c : U8) : AgreeOnRead (s.loadTx2 b c) (t.loadTx2 b c) :=
  ⟨h.busy, h.encReg, h.monReg, h.dir, h.calv, h.imaxUa, h.rshUohm, h.cfg, h.bus, h.host, h.script, h.drawn⟩

theorem AgreeOnRead.setCalreg (h : AgreeOnRead s t) (v : U16) : AgreeOnRead (s.setCalreg v) (t.setCalreg v) :=
  ⟨h.busy, h.encReg, h.monReg, h.dir, h.calv, h.imaxUa, h.rshUohm, h.cfg, h.bus, h.host, h.script, h.drawn⟩

theorem AgreeOnRead.setCalibration (h : AgreeOnRead s t) (i r : U32) :
    AgreeOnRead (s.setCalibration i r) (t.setCalibration i r) :=
  ⟨h.busy, h.encReg, h.monReg, h.dir, rfl, rfl, rfl, h.cfg, h.bus, h.host, h.script, h.drawn⟩

theorem AgreeOnRead.accept (h : AgreeOnRead s t) (c : Command) :
    AgreeOnRead (s.popHost.accept c) (t.popHost.accept c) :=
  ⟨rfl, h.encReg, h.monReg, h.dir, h.calv, h.imaxUa, h.rshUohm, h.cfg, h.bus, congrArg (List.drop 1) h.host, h.script,
    h.drawn⟩

theorem AgreeOnRead.respond (h : AgreeOnRead s t) (e : Err) (v : U64) : AgreeOnRead (s.respond e v) (t.respond e v) :=
  ⟨rfl, h.encReg, h.monReg, h.dir, h.calv, h.imaxUa, h.rshUohm, h.cfg, h.bus, h.host, h.script, h.drawn⟩

end

theorem respond_sameResponse (s t : State) (e : Err) (v : U64) : SameResponse (s.respond e v) (t.respond e v) :=
  ⟨rfl, rfl, rfl⟩

/-! ### The primitives -/

/-- Two reads return the same and leave agreeing states. -/
structure ReadsAgree (r₁ r₂ : ReadResult) : Prop where
  byte0 : r₁.byte0 = r₂.byte0
  byte1 : r₁.byte1 = r₂.byte1
  ok : r₁.ok = r₂.ok
  state : AgreeOnRead r₁.state r₂.state

/-- Two writes or ready checks return the same and leave agreeing states. -/
structure OksAgree (r₁ r₂ : OkResult) : Prop where
  ok : r₁.ok = r₂.ok
  state : AgreeOnRead r₁.state r₂.state

section
variable {s t : State} (h : AgreeOnRead s t) (hd : Handle) (addr : U8)
include h

theorem memRead_agree (n : Nat) : ReadsAgree (memRead hd addr n s) (memRead hd addr n t) := by
  simp only [memRead, h.answer_eq, h.memLimit_eq, h.readRequest_eq]
  exact ⟨rfl, rfl, rfl, (h.xact ..).loadRx ..⟩

theorem memWrite1_agree (b : U8) : OksAgree (memWrite1 hd addr b s) (memWrite1 hd addr b t) := by
  have loaded := h.loadTx1 b
  simp only [memWrite1, loaded.answer_eq, loaded.memLimit_eq, loaded.writeRequest_eq]
  exact ⟨rfl, loaded.xact ..⟩

theorem memWrite2_agree (w : U16) : OksAgree (memWrite2 hd addr w s) (memWrite2 hd addr w t) := by
  have loaded := h.loadTx2 (byte0 w) (byte1 w)
  simp only [memWrite2, loaded.answer_eq, loaded.memLimit_eq, loaded.writeRequest_eq]
  exact ⟨rfl, loaded.xact ..⟩

theorem busReady_agree : OksAgree (busReady hd s) (busReady hd t) := by
  simp only [busReady, h.answer_eq, h.readyLimit_eq, h.readyRequest_eq]
  exact ⟨rfl, h.xact ..⟩

/-- `recal` overwrites `CALREG` with a value of the stored parameters before anything uses it (rule R40). -/
theorem recal_agree : AgreeOnRead (recal s) (recal t) := by
  simp only [recal, State.addrOf, State.setCalreg_cfg, State.setCalreg_calreg, h.imaxUa, h.rshUohm, h.cfg]
  exact (memWrite2_agree (h.setCalreg _) ..).state

end

/-! ### Programs, plans and the step -/

theorem BusProgram.run_agree {n : Nat} (p : BusProgram n) {s t : State} (h : AgreeOnRead s t) :
    AgreeOnRead (p.run s) (p.run t) ∧ SameResponse (p.run s) (p.run t) := by
  induction p generalizing s t with
  | respond e v => exact ⟨h.respond e v, respond_sameResponse s t e v⟩
  | read hd addr len k hlen ih =>
    obtain ⟨byte0, byte1, ok, state⟩ := memRead_agree h hd addr len
    simp only [BusProgram.run, byte0, byte1, ok]
    exact ih _ _ _ state
  | write1 hd addr b k ih =>
    obtain ⟨ok, state⟩ := memWrite1_agree h hd addr b
    simp only [BusProgram.run, ok]
    exact ih _ state
  | write2 hd addr w k ih =>
    obtain ⟨ok, state⟩ := memWrite2_agree h hd addr w
    simp only [BusProgram.run, ok]
    exact ih _ state
  | ready hd k ih =>
    obtain ⟨ok, state⟩ := busReady_agree h hd
    simp only [BusProgram.run, ok]
    exact ih _ state

theorem OutcomesAgree.of_next {accepted : Prop} {s t : State} (h : AgreeOnRead s t ∧ SameResponse s t) :
    OutcomesAgree accepted (.next s) (.next t) :=
  ⟨h.1, fun _ => h.2⟩

theorem Plan.run_agree (p : Plan) {accepted : Prop} {s t : State} (h : AgreeOnRead s t) :
    OutcomesAgree accepted (p.run s) (p.run t) := by
  cases p with
  | bus p => exact .of_next (p.run_agree h)
  | onRecal p =>
    simp only [Plan.run, h.calibrationProblem_eq]
    cases t.calibrationProblem with
    | some e => exact rfl
    | none => exact .of_next (p.run_agree (recal_agree h))
  | calibrate i r =>
    simp only [Plan.run]
    split
    · exact .of_next ⟨(recal_agree (h.setCalibration i r)).respond _ _, respond_sameResponse ..⟩
    · exact rfl

end Sys2Proof.Machine

namespace Sys2Proof.Proofs

open Sys2Proof.Machine

/-- Settles O14: agreeing states find the same command and the same plan for it, and a plan's outcome depends on nothing
the states may differ in. -/
theorem staleStateReachesNoOutcome : Obligations.StaleStateReachesNoOutcome := by
  intro s t h
  cases hs : s.nextCommand with
  | none =>
    rw [step_of_no_command hs, step_of_no_command (h.nextCommand_eq.symm.trans hs)]
    exact ⟨h, fun ⟨busy, host⟩ => absurd hs (nextCommand_ne_none busy host)⟩
  | some c =>
    rw [step_eq_run hs, step_eq_run (h.nextCommand_eq.symm.trans hs), h.cfg, h.dir, h.imaxUa]
    exact Plan.run_agree _ (h.accept c)

end Sys2Proof.Proofs
end

section
/-! The decoder, the legality check and the encoder (rules R77, R81 to R85). The two tables of the opcode map are one table, the
two ways of finding reserved bits agree, and a command word is its fields; so a legal command is its row's fields packed again. -/

namespace Sys2Proof

/-! ### Command words and operands by their fields -/

/-- A command word is determined by the fields of rule R77 and the two groups of bits always reserved. -/
theorem cw_eq_iff_fields {v w : U32} :
    v = w ↔ v.extractLsb' 0 8 = w.extractLsb' 0 8 ∧ v.getLsbD 8 = w.getLsbD 8 ∧ v.getLsbD 9 = w.getLsbD 9 ∧
      v.extractLsb' 10 6 = w.extractLsb' 10 6 ∧ v.extractLsb' 16 8 = w.extractLsb' 16 8 ∧
      v.extractLsb' 24 8 = w.extractLsb' 24 8 := by
  refine ⟨by rintro rfl; simp, fun ⟨op, h, f, mid, addr, top⟩ => BitVec.eq_of_getLsbD_eq fun i hi => ?_⟩
  have bit {start len : Nat} (e : v.extractLsb' start len = w.extractLsb' start len) (lo : start ≤ i)
      (up : i < start + len) : v.getLsbD i = w.getLsbD i := by
    simpa [show i - start < len by omega, show start + (i - start) = i by omega]
      using congrArg (·.getLsbD (i - start)) e
  rcases Nat.lt_or_ge i 8 with h8 | h8
  · exact bit op (by omega) (by omega)
  rcases Nat.lt_or_ge i 10 with h10 | h10
  · obtain rfl | rfl : i = 8 ∨ i = 9 := by omega
    exacts [h, f]
  rcases Nat.lt_or_ge i 16 with h16 | h16
  · exact bit mid (by omega) (by omega)
  rcases Nat.lt_or_ge i 24 with h24 | h24
  · exact bit addr (by omega) (by omega)
  · exact bit top (by omega) (by omega)

theorem extractLsb'_one_eq_zero_iff {v : U32} {i : Nat} : v.extractLsb' i 1 = 0 ↔ v.getLsbD i = false := by
  simp [BitVec.eq_of_getLsbD_eq_iff]

/-- An opcode alone is the packed word with every other field zero. -/
theorem setWidth_eq_packCw (op : U8) : op.setWidth 32 = packCw op false false 0 := by simp [packCw]

/-- The mask of a format (rule R81) finds the reserved bits that the legality check finds. -/
theorem cw_and_mask_eq_op_iff (fmt : Format) (cw : U32) :
    cw &&& fmt.mask = (cw.extractLsb' 0 8).setWidth 32 ↔ fmt.reservedZero cw = true := by
  have mid (v : BitVec 6) : v &&& 63#6 = v := BitVec.and_allOnes
  have byte (v : U8) : v &&& 255#8 = v := BitVec.and_allOnes
  rw [setWidth_eq_packCw, cw_eq_iff_fields]
  simp only [packCw_op, packCw_addr, packCw_getLsbD_eight, packCw_getLsbD_nine, packCw_reserved_mid,
    packCw_reserved_top, BitVec.extractLsb'_and, BitVec.getLsbD_and, Format.reservedZero, Bool.and_eq_true,
    Bool.or_eq_true, beq_iff_eq, extractLsb'_one_eq_zero_iff]
  cases fmt <;> simp [Format.mask, mid, byte] <;> tauto

/-- A shift that leaves nothing and a bound by the width are one check (rule R82). -/
theorem Signature.fits_eq (sig : Signature) (v : U32) : sig.fits v = operandFits sig.width v := by
  rw [Signature.fits, operandFits, Bool.eq_iff_iff, beq_iff_eq, decide_eq_true_iff, ← BitVec.toNat_inj,
    BitVec.toNat_ushiftRight, Nat.shiftRight_eq_div_pow]
  exact Nat.div_eq_zero_iff_lt (Nat.two_pow_pos _)

/-- An operand cut to its signature and extended again, as the encoder writes it (rule R82). -/
def Signature.low (v : U32) : Signature → U32
  | .unused => 0
  | .s8 => (v.extractLsb' 0 8).setWidth 32
  | .s16 => (v.extractLsb' 0 16).setWidth 32
  | .s32 => v

theorem setWidth_extractLsb'_of_fits {n : Nat} {v : U32} (h : operandFits n v = true) :
    (v.extractLsb' 0 n).setWidth 32 = v := by
  apply BitVec.eq_of_toNat_eq
  simp only [operandFits, decide_eq_true_eq] at h
  simp [Nat.mod_eq_of_lt h, Nat.mod_eq_of_lt v.isLt]

theorem Signature.low_of_fits {sig : Signature} {v : U32} (h : operandFits sig.width v = true) : sig.low v = v := by
  cases sig with
  | unused =>
    have : v.toNat < 1 := of_decide_eq_true h
    exact BitVec.eq_of_toNat_eq (by simp [low]; omega)
  | s8 => exact setWidth_extractLsb'_of_fits h
  | s16 => exact setWidth_extractLsb'_of_fits h
  | s32 => rfl

/-! ### One opcode map -/

/-- A decoder's row as the legality check has it. -/
def Row.legal (r : Row) : LegalRow := ⟨r.op.toNat, r.format, r.opa.width, r.opb.width⟩

/-- The decoder's row for a command, if its opcode is in the map (R84 step 1). -/
def Command.mapRow? (c : Command) : Option Row := opcodeMap.find? fun r => r.op == c.op

theorem legalRows_eq_map : legalRows = opcodeMap.map Row.legal := rfl

/-- Both tables have a row for the same opcodes, and it is the same row. -/
theorem Command.row?_eq (c : Command) : c.row? = c.mapRow?.map Row.legal := by
  have same : (fun r : LegalRow => r.op == c.op.toNat) ∘ Row.legal = fun r => r.op == c.op := by
    funext r
    rw [Bool.eq_iff_iff, beq_iff_eq, ← BitVec.toNat_inj]
    exact beq_iff_eq
  rw [Command.mapRow?, ← same, ← List.find?_map, ← legalRows_eq_map]
  rfl

theorem Command.mapRow?_op {c : Command} {r : Row} (h : c.mapRow? = some r) : r.op = c.op := by
  unfold Command.mapRow? at h
  simpa using List.find?_some h

theorem Command.mem_of_mapRow? {c : Command} {r : Row} (h : c.mapRow? = some r) : r ∈ opcodeMap :=
  List.mem_of_find?_eq_some h

/-! ### The decoder, case by case -/

theorem decode_of_no_row {c : Command} (h : c.mapRow? = none) : decode c = .error .unknownOpcode := by
  unfold Command.mapRow? at h
  rw [decode, h]

/-- The decoder on a row of the map, in the terms of the legality check (rule R84). -/
theorem decode_of_row {c : Command} {r : Row} (h : c.mapRow? = some r) :
    decode c =
      if r.format.reservedZero c.cw = false then .error .reservedCw
      else if operandFits r.opa.width c.opa = false then .error .reservedOpa
      else if operandFits r.opb.width c.opb = false then .error .reservedOpb
      else .ok (r.build c) := by
  have cw : c.cw &&& r.format.mask ≠ r.op.setWidth 32 ↔ r.format.reservedZero c.cw = false := by
    rw [Command.mapRow?_op h, ← Bool.not_eq_true]
    exact (cw_and_mask_eq_op_iff r.format c.cw).not
  unfold Command.mapRow? at h
  rw [decode, h]
  simp only [cw, Signature.fits_eq]

theorem Command.wf_iff {c : Command} : c.wf = true ↔ ∃ r, c.mapRow? = some r ∧ r.format.reservedZero c.cw = true ∧
    operandFits r.opa.width c.opa = true ∧ operandFits r.opb.width c.opb = true := by
  rw [Command.wf, Command.row?_eq]
  cases c.mapRow? <;> simp [Row.legal, and_assoc]

/-- The decoder reads a legal command as its row says. -/
theorem decode_eq_ok_iff {c : Command} {i : Instr} :
    decode c = .ok i ↔ ∃ r, c.mapRow? = some r ∧ r.format.reservedZero c.cw = true ∧
      operandFits r.opa.width c.opa = true ∧ operandFits r.opb.width c.opb = true ∧ r.build c = i := by
  cases h : c.mapRow? with
  | none => simp [decode_of_no_row h]
  | some r =>
    rw [decode_of_row h]
    split_ifs <;> simp_all

/-! ### Encoding what was decoded -/

/-- The command word of the fields that a format has (rules R77 and R81). -/
def Format.pack (op : U8) (cw : U32) : Format → U32
  | .z => packCw op false false 0
  | .h => packCw op (cw.getLsbD 8) false 0
  | .ha => packCw op (cw.getLsbD 8) false (cw.extractLsb' 16 8)
  | .f => packCw op false (cw.getLsbD 9) 0

theorem Format.pack_of_reservedZero {fmt : Format} {cw : U32} (h : fmt.reservedZero cw = true) :
    fmt.pack (cw.extractLsb' 0 8) cw = cw := by
  simp only [reservedZero, Bool.and_eq_true, Bool.or_eq_true, beq_iff_eq, extractLsb'_one_eq_zero_iff] at h
  obtain ⟨⟨⟨⟨mid, top⟩, handle⟩, flag⟩, addr⟩ := h
  rw [cw_eq_iff_fields, mid, top]
  cases fmt <;>
    simp only [reduceCtorEq, false_or, true_or, or_self, or_true, or_false] at handle flag addr <;>
    simp only [pack, packCw_op, packCw_getLsbD_eight, packCw_getLsbD_nine, packCw_reserved_mid, packCw_addr,
      packCw_reserved_top, handle, flag, addr, and_self]

/-- The fields a row reads from a command, packed again. -/
def Row.repack (r : Row) (c : Command) : Command := ⟨r.format.pack r.op c.cw, r.opa.low c.opa, r.opb.low c.opb⟩

/-- A row reads every bit of its legal commands: none but reserved bits are left out. -/
theorem Row.repack_eq {r : Row} {c : Command} (op : r.op = c.op) (cw : r.format.reservedZero c.cw = true)
    (opa : operandFits r.opa.width c.opa = true) (opb : operandFits r.opb.width c.opb = true) : r.repack c = c := by
  rw [repack, op, Command.op, Format.pack_of_reservedZero cw, Signature.low_of_fits opa, Signature.low_of_fits opb]

@[simp] theorem AngleUnit.bit_ofFlag (f : Bool) : (AngleUnit.ofFlag f).bit = f := by cases f <;> rfl

@[simp] theorem Command.bit_handle (c : Command) : c.handle.bit = c.cw.getLsbD 8 := by
  unfold Command.handle
  cases c.cw.getLsbD 8 <;> rfl

/-- What a row reads from a command is encoded as the command's fields: one check for each row of the map (rule R83). -/
theorem encode_build {r : Row} (h : r ∈ opcodeMap) (c : Command) : encode (r.build c) = r.repack c := by
  revert r
  simp only [opcodeMap, rowsTransportCodecField, rowsEncoder, rowsMonitor, List.forall_mem_append, List.forall_mem_cons,
    encode, encodeZ, encodeH, encodeHA, encodeF, Command.bit_handle, AngleUnit.bit_ofFlag, Command.flag,
    Command.addr, Command.opa8, Command.opa16, Command.opb8, Command.opb16, Row.repack, Format.pack, Signature.low]
  simp only [List.not_mem_nil, false_implies, implies_true, and_self]

/-- No bit of a legal command is dropped. -/
theorem encode_of_decode {c : Command} {i : Instr} (h : decode c = .ok i) : encode i = c := by
  obtain ⟨r, hr, cw, opa, opb, rfl⟩ := decode_eq_ok_iff.1 h
  rw [encode_build (Command.mem_of_mapRow? hr), Row.repack_eq (Command.mapRow?_op hr) cw opa opb]

/-! ### Decoding what was encoded -/

/-- What the encoder writes is legal (rule R85). -/
theorem encode_wf : ∀ i : Instr, (encode i).wf = true
  | .rdb h addr => Laws.EncodeLegal.rdb h addr
  | .wrb h addr data => Laws.EncodeLegal.wrb h addr data
  | .rdw h addr => Laws.EncodeLegal.rdw h addr
  | .wrw h addr data => Laws.EncodeLegal.wrw h addr data
  | .probe h => Laws.EncodeLegal.probe h
  | .mskb value mask invert => Laws.EncodeLegal.mskb value mask invert
  | .mskw value mask invert => Laws.EncodeLegal.mskw value mask invert
  | .cmpw b0 b1 => Laws.EncodeLegal.cmpw b0 b1
  | .splw w => Laws.EncodeLegal.splw w
  | .fgetb h addr mask => Laws.EncodeLegal.fgetb h addr mask
  | .fsetb h addr mask bits => Laws.EncodeLegal.fsetb h addr mask bits
  | .fgetw h addr mask => Laws.EncodeLegal.fgetw h addr mask
  | .fsetw h addr mask bits => Laws.EncodeLegal.fsetw h addr mask bits
  | .setcfg h value => Laws.EncodeLegal.setcfg h value
  | .egraw => Laws.EncodeLegal.egraw
  | .egang => Laws.EncodeLegal.egang
  | .egreal unit => Laws.EncodeLegal.egreal unit
  | .eszpos value => Laws.EncodeLegal.eszpos value
  | .esmpos value => Laws.EncodeLegal.esmpos value
  | .esmang value => Laws.EncodeLegal.esmang value
  | .emdet => Laws.EncodeLegal.emdet
  | .emstr => Laws.EncodeLegal.emstr
  | .emweak => Laws.EncodeLegal.emweak
  | .mgrbus => Laws.EncodeLegal.mgrbus
  | .mgrshv => Laws.EncodeLegal.mgrshv
  | .mgrcur => Laws.EncodeLegal.mgrcur
  | .mgrpwr => Laws.EncodeLegal.mgrpwr
  | .mgbusv => Laws.EncodeLegal.mgbusv
  | .mgshv => Laws.EncodeLegal.mgshv
  | .mgcur => Laws.EncodeLegal.mgcur
  | .mgpwr => Laws.EncodeLegal.mgpwr
  | .mcal imaxUa rshUohm => Laws.EncodeLegal.mcal imaxUa rshUohm
  | .mrst => Laws.EncodeLegal.mrst

section
variable (op : U8) (h f : Bool) (addr : U8) (cw opa opb : U32) (b : U8) (w : U16)

/-- A packed command's row is the row of its opcode. -/
theorem mapRow?_packCw : Command.mapRow? ⟨packCw op h f addr, opa, opb⟩ = opcodeMap.find? fun r => r.op == op := by
  simp only [Command.mapRow?, Command.op, packCw_op]

@[simp] theorem handle_packCw (hd : Handle) : Command.handle ⟨packCw op hd.bit f addr, opa, opb⟩ = hd := by
  rw [Command.handle, packCw_getLsbD_eight]
  cases hd <;> rfl

@[simp] theorem flag_packCw : Command.flag ⟨packCw op h f addr, opa, opb⟩ = f := packCw_getLsbD_nine op h f addr

@[simp] theorem addr_packCw : Command.addr ⟨packCw op h f addr, opa, opb⟩ = addr := packCw_addr op h f addr

theorem extractLsb'_setWidth {n : Nat} (hn : n ≤ 32) (v : BitVec n) : (v.setWidth 32).extractLsb' 0 n = v := by
  rw [← BitVec.setWidth_eq_extractLsb' hn, BitVec.setWidth_setWidth_of_le _ hn, BitVec.setWidth_eq]

@[simp] theorem opa8_setWidth : Command.opa8 ⟨cw, b.setWidth 32, opb⟩ = b := extractLsb'_setWidth (by decide) b

@[simp] theorem opa16_setWidth : Command.opa16 ⟨cw, w.setWidth 32, opb⟩ = w := extractLsb'_setWidth (by decide) w

@[simp] theorem opb8_setWidth : Command.opb8 ⟨cw, opa, b.setWidth 32⟩ = b := extractLsb'_setWidth (by decide) b

@[simp] theorem opb16_setWidth : Command.opb16 ⟨cw, opa, w.setWidth 32⟩ = w := extractLsb'_setWidth (by decide) w

end

@[simp] theorem AngleUnit.ofFlag_bit (u : AngleUnit) : AngleUnit.ofFlag u.bit = u := by cases u <;> rfl

/-- The row of an encoded instruction's opcode reads that instruction from it: one check for each instruction, in its format
(rules R81 and R83). -/
theorem build_encode (i : Instr) : ∃ r, (encode i).mapRow? = some r ∧ r.build (encode i) = i := by
  cases i with
  | rdb | wrb | rdw | wrw | fgetb | fsetb | fgetw | fsetw => exact ⟨_, mapRow?_packCw .., by simp [encode, encodeHA]⟩
  | probe | setcfg => exact ⟨_, mapRow?_packCw .., by simp [encode, encodeH]⟩
  | mskb | mskw | egreal => exact ⟨_, mapRow?_packCw .., by simp [encode, encodeF]⟩
  | cmpw | splw | eszpos | esmpos | esmang => exact ⟨_, mapRow?_packCw .., by simp [encode, encodeZ]⟩
  | _ => exact ⟨_, mapRow?_packCw .., rfl⟩

theorem decode_encode (i : Instr) : decode (encode i) = .ok i := by
  obtain ⟨r, hr, hb⟩ := build_encode i
  obtain ⟨r', hr', cw, opa, opb⟩ := Command.wf_iff.1 (encode_wf i)
  obtain rfl : r = r' := Option.some_inj.1 (hr.symm.trans hr')
  exact decode_eq_ok_iff.2 ⟨r, hr, cw, opa, opb, hb⟩

end Sys2Proof

namespace Sys2Proof.Proofs

/-- Settles O1: what the encoder writes is legal, and the row of its opcode reads the instruction back. -/
theorem decodeOfEncodeIsTheInstruction : Obligations.DecodeOfEncodeIsTheInstruction :=
  fun i => ⟨encode_wf i, decode_encode i⟩

/-- Settles O2: a row reads every bit that is not reserved, and the reserved bits of a legal command are zero. -/
theorem encodeOfDecodeIsTheCommand : Obligations.EncodeOfDecodeIsTheCommand := fun _ _ => encode_of_decode

/-- Settles O3: decoder and legality check find the same row, and on a row they make the same three checks. -/
theorem decoderNamesTheFirstFailingCheck : Obligations.DecoderNamesTheFirstFailingCheck := by
  intro c
  have accepts : (∃ i, decode c = .ok i) ↔ c.wf = true := by simp [decode_eq_ok_iff, Command.wf_iff]
  cases h : c.mapRow? with
  | none => exact ⟨accepts, by simp [decode_of_no_row h, Command.row?_eq, h], by simp [Command.row?_eq, h]⟩
  | some r =>
    refine ⟨accepts, ?_, ?_⟩
    · rw [decode_of_row h]
      split_ifs <;> simp [Command.row?_eq, h]
    · intro l hl
      obtain rfl : r.legal = l := by simpa [Command.row?_eq, h] using hl
      rw [decode_of_row h]
      split_ifs <;> simp_all [Row.legal]

/-- Settles O4: each word is what the encoder writes for its command; the last has the handle bit set in a format without one. -/
theorem wordsWrittenOutDecode : Obligations.WordsWrittenOutDecode :=
  ⟨decode_encode (.rdb .enc 0x0B), decode_encode (.wrw .mon 0x05 0x1062), decode_encode (.mskb 0xB7 0x0C true),
    decode_encode (.fsetb .enc 0x08 0x0C 0x08), decode_encode (.egreal .rad), decode_encode (.esmang 0xFFFF),
    decode_encode (.mcal 3200000 100000), rfl⟩

end Sys2Proof.Proofs
end

section
/-! Physical values (rules R18 and R80): every count fits in 64 bits, so the response holds it exactly. -/

namespace Sys2Proof.Machine

theorem countOf_u64 {n : Int} (lower : -2 ^ 63 ≤ n) (upper : n < 2 ^ 63) : countOf (u64 n) = n :=
  BitVec.toInt_ofInt_eq_self (by decide) lower upper

/-- The physical value of a response whose count fits in 64 bits. -/
theorem physicalValue_u64 {i : Instr} {l : Lsb} {n : Int} (h : lsb i = some l) (lower : -2 ^ 63 ≤ n) (upper : n < 2 ^ 63) :
    physicalValue i (u64 n) = some ((n : ℚ) * l.coeff) := by
  rw [physicalValue, h, Option.map_some, countOf_u64 lower upper]

/-! ### Bounds of the counts -/

theorem s16_bounds (w : U16) : -32768 ≤ s16 w ∧ s16 w ≤ 32767 := by
  have := w.isLt
  unfold s16
  split <;> omega

/-- A signed word times a weight of at most 37 bits fits in 64 bits. -/
theorem s16_mul_bounds (w : U16) {k : Nat} (hk : k ≤ 2 ^ 37) : -2 ^ 63 ≤ s16 w * (k : Int) ∧ s16 w * (k : Int) < 2 ^ 63 := by
  obtain ⟨lower, upper⟩ := s16_bounds w
  constructor <;> nlinarith

theorem angleCount_bounds (unit : AngleUnit) (a : U16) : 0 ≤ angleCount unit a ∧ angleCount unit a ≤ 45 * 65535 := by
  have := a.isLt
  cases unit <;> simp only [angleCount] <;> omega

theorem busmv_eq (w : U16) : busmv w = ((w.toNat / 8 : Nat) : Int) * 4 := by
  rw [busmv, BitVec.toNat_ushiftRight, Nat.shiftRight_eq_div_pow]

theorem busmv_bounds (w : U16) : 0 ≤ busmv w ∧ busmv w ≤ 32764 := by
  have := w.isLt
  rw [busmv_eq]
  omega

/-- `PWR_LSB` is 20 × `CUR_LSB` without overflow (rule R39). -/
theorem State.pwrLsb_toNat (s : State) : s.pwrLsb.toNat = 20 * s.imaxUa.toNat := by
  have := s.imaxUa.isLt
  rw [State.pwrLsb, BitVec.toNat_mul, BitVec.toNat_setWidth]
  change 20 * (s.imaxUa.toNat % 2 ^ 37) % 2 ^ 37 = _
  omega

/-! ### The rows of the LSB table -/

theorem physicalValue_deg (a : U16) :
    physicalValue (.egreal .deg) (u64 (angleCount .deg a)) = some ((a.toNat : ℚ) * 360 / 4096) := by
  obtain ⟨lower, upper⟩ := angleCount_bounds .deg a
  rw [physicalValue_u64 rfl (by omega) (by omega), angleCount]
  push_cast
  ring_nf

theorem physicalValue_rad (a : U16) :
    physicalValue (.egreal .rad) (u64 (angleCount .rad a)) = some ((a.toNat : ℚ) * 2 / 4096) := by
  obtain ⟨lower, upper⟩ := angleCount_bounds .rad a
  rw [physicalValue_u64 rfl (by omega) (by omega), angleCount]
  push_cast
  ring_nf

theorem physicalValue_bus {ovf w : U16} (h : w &&& ovf = 0) :
    physicalValue .mgbusv (u64 (busVoltage ovf w)) = some (((w.toNat / 8 : Nat) : ℚ) * 4) := by
  obtain ⟨lower, upper⟩ := busmv_bounds w
  rw [busVoltage, if_neg (not_not_intro h), physicalValue_u64 rfl (by omega) (by omega), busmv_eq,
    mul_one, Int.cast_mul, Int.cast_natCast, Int.cast_ofNat]

theorem physicalValue_bus_overflow {ovf w : U16} (h : w &&& ovf ≠ 0) :
    physicalValue .mgbusv (u64 (busVoltage ovf w)) = some (-100 * 1000) := by
  rw [busVoltage, if_pos h, physicalValue_u64 rfl (by decide) (by decide)]
  norm_num

theorem physicalValue_shunt (w : U16) : physicalValue .mgshv (u64 (s16 w * 10)) = some ((s16 w : ℚ) * 10) := by
  obtain ⟨lower, upper⟩ := s16_bounds w
  rw [physicalValue_u64 rfl (by omega) (by omega)]
  push_cast
  rw [mul_one]

theorem physicalValue_current (s : State) (w : U16) :
    physicalValue .mgcur (u64 (s16 w * (s.curLsb.toNat : Int))) = some ((s16 w : ℚ) * ((s.imaxUa.toNat : ℚ) / 32768)) := by
  have := s.imaxUa.isLt
  obtain ⟨lower, upper⟩ := s16_mul_bounds w (k := s.imaxUa.toNat) (by omega)
  rw [State.curLsb, physicalValue_u64 rfl lower upper]
  push_cast
  ring_nf

theorem physicalValue_power (s : State) (w : U16) :
    physicalValue .mgpwr (u64 (s16 w * (s.pwrLsb.toNat : Int))) =
      some ((s16 w : ℚ) * (20 * ((s.imaxUa.toNat : ℚ) / 32768))) := by
  obtain ⟨lower, upper⟩ := s16_mul_bounds w s.pwrLsb.isLt.le
  rw [physicalValue_u64 rfl lower upper, State.pwrLsb_toNat]
  push_cast
  ring_nf

end Sys2Proof.Machine

namespace Sys2Proof.Proofs

open Sys2Proof.Machine

/-- Settles O55: the six values one by one; units and factors of π are read off the table. -/
theorem countsTimesLsbAreTheSourceFormulas : Obligations.CountsTimesLsbAreTheSourceFormulas := by
  refine ⟨physicalValue_deg, physicalValue_rad, ?_, fun _ _ => physicalValue_bus, fun _ _ => physicalValue_bus_overflow,
    physicalValue_shunt, physicalValue_current, physicalValue_power⟩
  rintro i u pi (⟨rfl, rfl, rfl⟩ | ⟨rfl, rfl, rfl⟩ | ⟨rfl, rfl, rfl⟩ | ⟨rfl, rfl, rfl⟩ | ⟨rfl, rfl, rfl⟩ | ⟨rfl, rfl, rfl⟩)
  all_goals exact ⟨_, rfl, rfl, rfl⟩

end Sys2Proof.Proofs
end

section
/-! Acceptance (rule R76): the state a decoded command runs from, and the steps that accept nothing. -/

namespace Sys2Proof.Machine

theorem Presents.nextCommand {s : State} {c : Command} (h : Presents s c) : s.nextCommand = some c := by
  obtain ⟨busy, host⟩ := h
  simp [State.nextCommand, busy, host]

theorem nextCommand_eq_none_iff {s : State} : s.nextCommand = none ↔ s.busy = true ∨ s.host = [] := by
  cases h : s.busy <;> simp [State.nextCommand, h]

/-- A legal command's step is its meaning at the accepting state. -/
theorem step_of_decode {s : State} {c : Command} {i : Instr} (h : s.nextCommand = some c) (hi : decode c = .ok i) :
    step s = exec i (s.popHost.accept c) := by
  rw [step_eq_run h, exec_eq_run_plan, commandPlan, hi]
  rfl

/-- Acceptance writes the latches, `BUSY` and `SEQ`, and takes the command from the host (rule R76). -/
theorem accept_accepted (s : State) (c : Command) : Accepted s (s.popHost.accept c) c := ⟨rfl, rfl, rfl, rfl⟩

theorem accept_keepsRest (s : State) (c : Command) : KeepsRest s (s.popHost.accept c) :=
  ⟨⟨⟨rfl, rfl, rfl⟩, rfl⟩, ⟨rfl, rfl⟩, ⟨rfl, rfl⟩, ⟨rfl, rfl, rfl, rfl, rfl⟩, rfl, rfl, rfl, rfl⟩

theorem accept_sameResponse (s : State) (c : Command) : SameResponse (s.popHost.accept c) s := ⟨rfl, rfl, rfl⟩

end Sys2Proof.Machine

namespace Sys2Proof.Proofs

open Sys2Proof.Machine

/-- Settles O5: the state is the accepting one. -/
theorem stepRunsTheDecodedCommand : Obligations.StepRunsTheDecodedCommand := fun s c _ h hi =>
  ⟨s.popHost.accept c, accept_accepted s c, rfl, rfl, accept_keepsRest s c, accept_sameResponse s c,
    step_of_decode h.nextCommand hi⟩

/-- Settles O7: at `BUSY` = 1, or with nothing presented, there is no command to accept. -/
theorem busyOrUnaskedStepChangesNothing : Obligations.BusyOrUnaskedStepChangesNothing := fun _ h =>
  step_of_no_command (nextCommand_eq_none_iff.2 h)

end Sys2Proof.Proofs
end

section
/-! The pseudo-instructions (rules R89, R158 and R190). -/

namespace Sys2Proof.Machine

theorem encFieldAddr_eq (p : Params) (f : EncField) : encFieldAddr p f = p.halfAddr (encFieldParam p f).half :=
  symAddr_halfReg p _

/-- A field with descriptor parameters `d` has the mask and the half of `d` (rule R158). -/
theorem encField_of_param {p : Params} {f : EncField} {d : EncFieldParam} (h : encFieldParam p f = d) :
    encFieldMask p f = d.mask ∧ (d.half = .hi → encFieldAddr p f = p.encConfHi) ∧
      (d.half = .lo → encFieldAddr p f = p.encConfLo) := by
  subst h
  refine ⟨rfl, fun half => ?_, fun half => ?_⟩ <;> rw [encFieldAddr_eq, half] <;> rfl

end Sys2Proof.Machine

namespace Sys2Proof.Proofs

open Sys2Proof.Machine

/-- Settles O34: the expansions, the two fixed descriptors and the monitor's masks are the tables' rows; the other encoder
descriptors are those of their parameters. -/
theorem pseudoInstructionsAreFieldCommands : Obligations.PseudoInstructionsAreFieldCommands := by
  intro p
  refine ⟨fun _ _ => rfl, fun _ => rfl, fun _ _ => rfl, fun _ => rfl, ⟨rfl, rfl⟩, ⟨rfl, rfl⟩, ?_, rfl, rfl, rfl, rfl, rfl⟩
  rintro f d (⟨rfl, rfl⟩ | ⟨rfl, rfl⟩ | ⟨rfl, rfl⟩ | ⟨rfl, rfl⟩ | ⟨rfl, rfl⟩)
  all_goals exact encField_of_param rfl

end Sys2Proof.Proofs
end

section
/-! The rows of the opcode map (rules R77, R81 to R85) as the statements have them: a command with a row's opcode is decoded by
the row when it is legal, and answered with `ILLEGAL` when it is not. -/

namespace Sys2Proof.Machine

/-! ### The operands of a command -/

@[simp] theorem handleBit_eq (c : Command) : handleBit c = c.handle := rfl

@[simp] theorem flagBit_eq (c : Command) : flagBit c = c.flag := rfl

@[simp] theorem addrBits_eq (c : Command) : addrBits c = c.addr := by
  rw [addrBits, Command.addr, BitVec.extractLsb', Nat.shiftRight_eq_div_pow]

@[simp] theorem low8_opa (c : Command) : low8 c.opa = c.opa8 := rfl

@[simp] theorem low8_opb (c : Command) : low8 c.opb = c.opb8 := rfl

@[simp] theorem low16_opa (c : Command) : low16 c.opa = c.opa16 := rfl

@[simp] theorem low16_opb (c : Command) : low16 c.opb = c.opb16 := rfl

/-- The low byte of `cw` is the opcode (rule R77). -/
theorem op_eq_of_cw_and {c : Command} {op : U8} (h : c.cw &&& 0xFF = op.setWidth 32) : c.op = op := by
  have low := congrArg (BitVec.setWidth 8) h
  rw [BitVec.setWidth_and, BitVec.setWidth_setWidth_of_le _ (by decide), BitVec.setWidth_eq] at low
  calc c.op = c.cw.setWidth 8 := (BitVec.setWidth_eq_extractLsb' (by decide)).symm
    _ = c.cw.setWidth 8 &&& 0xFF := BitVec.and_allOnes.symm
    _ = op := low

/-! ### Legal and illegal commands -/

theorem Accepted.respond {s t : State} {c : Command} (h : Accepted s t c) (e : Err) (v : U64) :
    Accepted s (t.respond e v) c := ⟨h.cw, h.opa, h.opb, h.host⟩

/-- An illegal command's step is acceptance and `raise Illegal` (rules R84, R85 and R198). -/
theorem answeredIllegal_of_not_wf {c : Command} (h : ¬ c.wf = true) : AnsweredIllegal c := by
  intro s hs
  have rest := accept_keepsRest s c
  refine ⟨(s.popHost.accept c).respond .illegal 0, ?_, respond_responded ..,
    (accept_accepted s c).respond .., rest.toKeepsCalibration.respond .., rest.toKeepsTx.respond ..,
    rest.toKeepsRx.respond .., rest.toNoTransaction.respond .., rest.encReg, rest.monReg, rest.dir, rest.cfg⟩
  rw [step_eq_run hs.nextCommand, commandPlan]
  cases hd : decode c with
  | error e => rfl
  | ok i =>
    obtain ⟨r, hr, cw, opa, opb, -⟩ := decode_eq_ok_iff.1 hd
    exact absurd (Command.wf_iff.2 ⟨r, hr, cw, opa, opb⟩) h

/-- The legality of a command with a row, in the bits of its triple. -/
theorem wf_iff_of_row {c : Command} {r : Row} (h : c.mapRow? = some r) :
    c.wf = true ↔ c.cw &&& r.format.mask = c.op.setWidth 32 ∧ c.opa.toNat < 2 ^ r.opa.width ∧
      c.opb.toNat < 2 ^ r.opb.width := by
  rw [Command.op, cw_and_mask_eq_op_iff]
  simp [Command.wf_iff, h, operandFits]

/-- A legal command is what its row builds. -/
theorem decode_of_wf {c : Command} {r : Row} (h : c.mapRow? = some r) (wf : c.wf = true) : decode c = .ok (r.build c) := by
  obtain ⟨r', hr', cw, opa, opb⟩ := Command.wf_iff.1 wf
  obtain rfl : r = r' := Option.some_inj.1 (h.symm.trans hr')
  exact decode_eq_ok_iff.2 ⟨r, hr', cw, opa, opb, rfl⟩

/-! ### The rows -/

/-- The row of an opcode reads as `RowReadsAs` says of its columns. -/
theorem rowReadsAs_of_row {op : U8} {r : Row} (hr : opcodeMap.find? (fun r => r.op == op) = some r) :
    RowReadsAs (op.setWidth 32) r.format.mask r.opa.width r.opb.width r.build := by
  intro c hc
  obtain rfl := op_eq_of_cw_and hc
  rw [← wf_iff_of_row hr]
  exact ⟨decode_of_wf hr, answeredIllegal_of_not_wf⟩

theorem RowReadsAs.congr_build {op mask : U32} {m n : Nat} {build build' : Command → Instr}
    (h : RowReadsAs op mask m n build) (e : ∀ c, build' c = build c) : RowReadsAs op mask m n build' :=
  (funext e : build' = build) ▸ h

end Sys2Proof.Machine
end

section
/-! The loop of rule R102. It counts until the response is present or the limit is reached, and then stays idle. -/

namespace Sys2Proof.Machine

variable {limit after : Nat}

/-- How the loop ends: at the smaller of the delay and the limit. -/
def fsmEnd (limit after : Nat) : Fsm := ⟨.idle, min after limit, if after < limit then .taken else .timedOut⟩

theorem fsmEnd_of_arrives (h : after < limit) : fsmEnd limit after = ⟨.idle, after, .taken⟩ := by
  simp [fsmEnd, h, h.le]

theorem fsmEnd_of_late (h : ¬ after < limit) : fsmEnd limit after = ⟨.idle, limit, .timedOut⟩ := by
  simp [fsmEnd, h, Nat.le_of_not_lt h]

/-! ### One time unit -/

theorem fsmTick_idle {f : Fsm} (h : f.tst = .idle) : fsmTick limit after f = f := by
  rw [fsmTick, h]

theorem fsmTick_waits {k : Nat} (ha : k < after) (hl : k + 1 < limit) :
    fsmTick limit after ⟨.wait, k, .pending⟩ = ⟨.wait, k + 1, .pending⟩ := by
  simp [fsmTick, show ¬ after ≤ k by omega, show ¬ k + 1 = limit by omega]

/-- The unit in which the response is present. -/
theorem fsmTick_takes (h : after < limit) : fsmTick limit after ⟨.wait, after, .pending⟩ = fsmEnd limit after := by
  simp [fsmTick, fsmEnd_of_arrives h]

/-- The unit in which `TCNT` reaches the limit. -/
theorem fsmTick_timesOut {k : Nat} (hk : k + 1 = limit) (h : limit ≤ after) :
    fsmTick limit after ⟨.wait, k, .pending⟩ = fsmEnd limit after := by
  simp [fsmTick, fsmEnd_of_late h.not_gt, hk, show ¬ after ≤ k by omega]

/-! ### The loop -/

theorem fsmIter_succ (k : Nat) (f : Fsm) :
    fsmIter limit after (k + 1) f = fsmTick limit after (fsmIter limit after k f) := by
  induction k generalizing f with
  | zero => rfl
  | succ k ih => exact ih _

/-- Until the response or the limit the FSM waits, with `TCNT` counting. -/
theorem fsmIter_waits (k : Nat) (ha : k ≤ after) (hl : k < limit) :
    fsmIter limit after k fsmStart = ⟨.wait, k, .pending⟩ := by
  induction k with
  | zero => rfl
  | succ k ih => rw [fsmIter_succ, ih (by omega) (by omega), fsmTick_waits (by omega) hl]

/-- Once ended, the loop stays as it is. -/
theorem fsmIter_stays {m k : Nat} (hm : fsmIter limit after m fsmStart = fsmEnd limit after) (hk : m ≤ k) :
    fsmIter limit after k fsmStart = fsmEnd limit after := by
  induction k, hk using Nat.le_induction with
  | base => exact hm
  | succ k _ ih => rw [fsmIter_succ, ih, fsmTick_idle rfl]

/-- Run for the limit or longer, the loop has ended: one unit after the delay, or at the limit. -/
theorem fsmIter_ends {k : Nat} (pos : 1 ≤ limit) (hk : limit ≤ k) :
    fsmIter limit after k fsmStart = fsmEnd limit after := by
  rcases Nat.lt_or_ge after limit with h | h
  · have taken : fsmIter limit after (after + 1) fsmStart = fsmEnd limit after := by
      rw [fsmIter_succ, fsmIter_waits after le_rfl h, fsmTick_takes h]
    exact fsmIter_stays taken (by omega)
  · obtain ⟨m, rfl⟩ : ∃ m, limit = m + 1 := ⟨limit - 1, by omega⟩
    have timedOut : fsmIter (m + 1) after (m + 1) fsmStart = fsmEnd (m + 1) after := by
      rw [fsmIter_succ, fsmIter_waits m (by omega) (by omega), fsmTick_timesOut rfl h]
    exact fsmIter_stays timedOut hk

/-! ### The answer that ends it -/

theorem arrives_iff {a : Answer} : a.arrives limit = true ↔ a.after < limit := decide_eq_true_iff

theorem succeeds_of_arrives {a : Answer} (h : a.after < limit) : a.succeeds limit = a.ok := by
  rw [Answer.succeeds, arrives_iff.2 h, Bool.true_and]

theorem succeeds_of_late {a : Answer} (h : ¬ a.after < limit) : a.succeeds limit = false := by
  rw [Answer.succeeds, Bool.eq_false_iff.2 (mt arrives_iff.1 h), Bool.false_and]

/-- The loop ends with the `TCNT` that `Xact` leaves, and takes a response exactly when it arrives. -/
theorem fsmEnd_answer (a : Answer) (limit : Nat) :
    fsmEnd limit a.after = ⟨.idle, a.elapsed limit, if a.arrives limit then .taken else .timedOut⟩ := by
  simp only [fsmEnd, Answer.elapsed, arrives_iff]

end Sys2Proof.Machine

namespace Sys2Proof.Proofs

open Sys2Proof.Machine

/-- Settles O15: the loop ends in `fsmEnd`, which is what `Xact` leaves; it is `taken` when the answer arrives, and then the
recorded `ok` is the answer's. -/
theorem fsmLoopEndsAsXactSays : Obligations.FsmLoopEndsAsXactSays := by
  refine ⟨fun s req limit pos => ?_, fun a limit pos => ?_⟩
  · rw [fsmIter_ends pos le_rfl]
    refine ⟨_, s.answer.response req limit, rfl, rfl, rfl, rfl, ?_⟩
    by_cases h : s.answer.after < limit
    · rw [fsmEnd_of_arrives h]
      exact ⟨.inl rfl, fun _ => succeeds_of_arrives h, nofun⟩
    · rw [fsmEnd_of_late h]
      exact ⟨.inr rfl, nofun, fun _ => response_of_fails (succeeds_of_late h)⟩
  · rw [fsmIter_ends pos le_rfl]
    exact ⟨fsmEnd_answer a limit, arrives_iff, rfl, fsmIter_waits, fun _ hk => fsmIter_ends pos hk⟩

end Sys2Proof.Proofs
end

section
/-! The transport commands (rules R110 to R114): one transaction each, and its outcome in the response. -/

namespace Sys2Proof.Machine

variable (s : State) (h : Handle) (addr : U8)

theorem exec_rdb : exec (.rdb h addr) s =
    .next ((memRead h addr 1 s).state.respondBus (memRead h addr 1 s).ok ((memRead h addr 1 s).byte0.setWidth 64)) := rfl

theorem exec_wrb (data : U8) : exec (.wrb h addr data) s =
    .next ((memWrite1 h addr data s).state.respondBus (memWrite1 h addr data s).ok 0) := rfl

theorem exec_rdw : exec (.rdw h addr) s =
    .next ((memRead h addr 2 s).state.respondBus (memRead h addr 2 s).ok ((memRead h addr 2 s).word.setWidth 64)) := rfl

theorem exec_wrw (data : U16) : exec (.wrw h addr data) s =
    .next ((memWrite2 h addr data s).state.respondBus (memWrite2 h addr data s).ok 0) := rfl

theorem exec_probe : exec (.probe h) s = .next ((busReady h s).state.respond .none (boolVal (busReady h s).ok)) := rfl

end Sys2Proof.Machine

namespace Sys2Proof.Proofs

open Sys2Proof.Machine

/-- Settles O16: one `MemRead` of one byte, reported (rule R110). -/
theorem rdbReadsOneByteAndReports : Obligations.RdbReadsOneByteAndReports := by
  refine ⟨(rowReadsAs_of_row (op := 0x01) rfl).congr_build (by simp), fun s h addr => ?_⟩
  obtain ⟨fixed, cal, tx, made⟩ := memRead_frame s h addr 1
  have ok := memRead_ok s h addr 1
  exact ⟨_, _, _, exec_rdb s h addr, isRead1_xact s h addr, made.respond .., memRead_byte0 s h addr 1,
    (memRead1_received s h addr).respond _ _, fun hs => respondBus_of_ok _ (ok.2 hs) _,
    fun hs => respondBus_of_fail _ (mt ok.1 hs) _, fixed.respond .., cal.respond .., tx.respond ..⟩

/-- Settles O17: one `MemWrite` of one byte, reported (rule R111). -/
theorem wrbWritesOneByteAndReports : Obligations.WrbWritesOneByteAndReports := by
  refine ⟨(rowReadsAs_of_row (op := 0x02) rfl).congr_build (by simp), fun s h addr data => ?_⟩
  obtain ⟨fixed, cal, rx, ⟨sent, kept⟩, made⟩ := memWrite1_frame s h addr data
  have ok := memWrite1_ok s h addr data
  exact ⟨_, _, exec_wrb s h addr data, isWrite_xact s h addr [data], made.respond .., sent, kept,
    fun hs => respondBus_of_ok _ (ok.2 hs) _, fun hs => respondBus_of_fail _ (mt ok.1 hs) _,
    fixed.respond .., cal.respond .., rx.respond ..⟩

/-- Settles O18: one `MemRead` of two bytes, the first the high one, reported (rule R112). -/
theorem rdwReadsOneWordAndReports : Obligations.RdwReadsOneWordAndReports := by
  refine ⟨(rowReadsAs_of_row (op := 0x03) rfl).congr_build (by simp), fun s h addr => ?_⟩
  obtain ⟨fixed, cal, tx, made⟩ := memRead_frame s h addr 2
  have ok := memRead_ok s h addr 2
  exact ⟨_, _, _, exec_rdw s h addr, isRead2_xact s h addr, made.respond .., memRead_word s h addr 2,
    (memRead2_received s h addr).respond _ _, fun hs => respondBus_of_ok _ (ok.2 hs) _,
    fun hs => respondBus_of_fail _ (mt ok.1 hs) _, fixed.respond .., cal.respond .., tx.respond ..⟩

/-- Settles O19: one `MemWrite` of two bytes, the high one first, reported (rule R113). -/
theorem wrwWritesOneWordAndReports : Obligations.WrwWritesOneWordAndReports := by
  refine ⟨(rowReadsAs_of_row (op := 0x04) rfl).congr_build (by simp), fun s h addr data => ?_⟩
  obtain ⟨fixed, cal, rx, sent, made⟩ := memWrite2_frame s h addr data
  have ok := memWrite2_ok s h addr data
  exact ⟨_, _, exec_wrw s h addr data, isWrite_xact s h addr [hiByte data, loByte data], made.respond .., sent.respond ..,
    fun hs => respondBus_of_ok _ (ok.2 hs) _, fun hs => respondBus_of_fail _ (mt ok.1 hs) _,
    fixed.respond .., cal.respond .., rx.respond ..⟩

/-- Settles O20: one `BusReady`, whose outcome is the value and not a failure (rule R114). -/
theorem probeAnswersWhetherAcknowledged : Obligations.ProbeAnswersWhetherAcknowledged := by
  refine ⟨(rowReadsAs_of_row (op := 0x05) rfl).congr_build (by simp), fun s h => ?_⟩
  obtain ⟨fixed, cal, rx, tx, made⟩ := busReady_frame s h
  refine ⟨_, _, exec_probe s h, isReadyCheck_xact s h, made.respond .., fun hs => ?_, fun hs => ?_,
    fixed.respond .., cal.respond .., tx.respond .., rx.respond ..⟩
  · rw [(busReady_ok s h).2 hs]
    exact respond_responded ..
  · rw [Bool.eq_false_iff.2 (mt (busReady_ok s h).1 hs)]
    exact respond_responded ..

end Sys2Proof.Proofs
end

section
/-! Masks, and the two bytes of a word (rules R121 to R126). A masked value is a bitwise term, so the laws of the masks are Boolean
ones and hold at every width. -/

namespace Sys2Proof.Machine

/-! ### Masks -/

@[simp] theorem maskByte_false (v m : U8) : maskByte v m false = v &&& m := rfl

@[simp] theorem maskByte_true (v m : U8) : maskByte v m true = v &&& ~~~m := rfl

@[simp] theorem maskWord_false (v m : U16) : maskWord v m false = v &&& m := rfl

@[simp] theorem maskWord_true (v m : U16) : maskWord v m true = v &&& ~~~m := rfl

section
variable {w : Nat} {v m b m₂ : BitVec w}

theorem and_or_and_not (v m : BitVec w) : (v &&& m) ||| (v &&& ~~~m) = v := by
  rw [← BitVec.and_or_distrib_left, BitVec.or_not_self, BitVec.and_allOnes]

theorem and_and_and_not (v m : BitVec w) : (v &&& m) &&& (v &&& ~~~m) = 0 := by
  refine BitVec.eq_of_getLsbD_eq fun i _ => ?_
  cases bit : m.getLsbD i <;> simp [bit]

/-- A value lies within a mask exactly when the mask leaves it as it is. -/
theorem and_not_eq_zero_iff : b &&& ~~~m = 0 ↔ b &&& m = b := by
  constructor <;> intro h
  · simpa [h] using and_or_and_not b m
  · rw [← h, BitVec.and_assoc, BitVec.and_not_self]
    simp

/-- A mask disjoint from `m` lies within the complement of `m`. -/
theorem not_and_of_disjoint (hd : m &&& m₂ = 0) : ~~~m &&& m₂ = m₂ := by
  simpa [BitVec.and_comm m₂, hd] using and_or_and_not m₂ m

/-- An updated field reads back as the bits written (rule R123). -/
theorem update_and_mask (within : b &&& ~~~m = 0) : ((v &&& ~~~m) ||| b) &&& m = b := by
  rw [BitVec.and_or_distrib_right, BitVec.and_assoc, BitVec.not_and_self, and_not_eq_zero_iff.1 within]
  simp

/-- An update leaves what a disjoint mask reads (rule R123). -/
theorem update_and_disjoint (within : b &&& ~~~m = 0) (hd : m &&& m₂ = 0) :
    ((v &&& ~~~m) ||| b) &&& m₂ = v &&& m₂ := by
  have outside : b &&& m₂ = 0 := by
    rw [← and_not_eq_zero_iff.1 within, BitVec.and_assoc, hd]
    simp
  rw [BitVec.and_or_distrib_right, BitVec.and_assoc, not_and_of_disjoint hd, outside]
  simp

end

/-! ### Words -/

theorem hiByte_toNat (w : U16) : (hiByte w).toNat = w.toNat / 256 := by
  have := w.isLt
  rw [hiByte, BitVec.toNat_ofNat]
  omega

theorem loByte_toNat (w : U16) : (loByte w).toNat = w.toNat % 256 := by
  rw [loByte, BitVec.toNat_ofNat]

/-- `word(bytes(w)) = w` (rule R126). -/
theorem wordOf_hiByte_loByte (w : U16) : wordOf (hiByte w) (loByte w) = w := by
  apply BitVec.eq_of_toNat_eq
  rw [wordOf_toNat, hiByte_toNat, loByte_toNat]
  omega

/-- `bytes(word(b0, b1)) = [b0, b1]` (rule R126). -/
theorem hiByte_wordOf (b0 b1 : U8) : hiByte (wordOf b0 b1) = b0 := by
  apply BitVec.eq_of_toNat_eq
  have := b1.isLt
  rw [hiByte_toNat, wordOf_toNat]
  omega

theorem loByte_wordOf (b0 b1 : U8) : loByte (wordOf b0 b1) = b1 := by
  apply BitVec.eq_of_toNat_eq
  have := b1.isLt
  rw [loByte_toNat, wordOf_toNat]
  omega

/-- A word as a response's value (rule R11). -/
theorem zext64_toNat (w : U16) : (zext64 w).toNat = w.toNat := BitVec.toNat_setWidth_of_le (by decide)

end Sys2Proof.Machine

namespace Sys2Proof.Proofs

open Sys2Proof.Machine

/-- Settles O25: the laws at every width, at 8 and at 16. -/
theorem maskFunctionsPartitionAValue : Obligations.MaskFunctionsPartitionAValue := by
  refine ⟨fun v m _ _ => ?_, fun v m _ _ => ?_⟩
  · rw [maskByte_false, maskByte_true]
    exact ⟨and_or_and_not v m, and_and_and_not v m, update_and_mask, update_and_disjoint⟩
  · rw [maskWord_false, maskWord_true]
    exact ⟨and_or_and_not v m, and_and_and_not v m, update_and_mask, update_and_disjoint⟩

/-- Settles O26: by the high and the low byte of each side. -/
theorem wordAndBytesAreInverse : Obligations.WordAndBytesAreInverse := by
  refine ⟨fun w => ?_, fun b0 b1 => ?_⟩
  · rw [byte0_eq_hiByte, byte1_eq_loByte, wordOf_hiByte_loByte]
  · rw [bytesOf, byte0_eq_hiByte, byte1_eq_loByte, hiByte_wordOf, loByte_wordOf]

end Sys2Proof.Proofs
end

section
/-! The codec commands (rules R120 to R125): a response and nothing else. -/

namespace Sys2Proof.Machine

variable (s : State)

/-- Completion writes the response, `BUSY` and `SEQ`, and nothing else (rule R120). -/
theorem respond_frame (e : Err) (v : U64) :
    KeepsFixed s (s.respond e v) ∧ KeepsCalibration s (s.respond e v) ∧ KeepsTx s (s.respond e v) ∧
      KeepsRx s (s.respond e v) ∧ NoTransaction s (s.respond e v) :=
  ⟨⟨rfl, rfl, rfl, rfl, rfl, rfl, rfl, rfl⟩, ⟨⟨rfl, rfl, rfl⟩, rfl⟩, ⟨rfl, rfl⟩, ⟨rfl, rfl⟩, ⟨rfl, rfl, rfl, rfl, rfl⟩⟩

theorem exec_mskb (value mask : U8) (invert : Bool) : exec (.mskb value mask invert) s =
    .next (s.respond .none ((maskByte value mask invert).setWidth 64)) := rfl

theorem exec_mskw (value mask : U16) (invert : Bool) : exec (.mskw value mask invert) s =
    .next (s.respond .none ((maskWord value mask invert).setWidth 64)) := rfl

theorem exec_cmpw (b0 b1 : U8) : exec (.cmpw b0 b1) s = .next (s.respond .none (zext64 (wordOf b0 b1))) := rfl

/-- The value of `SPLW` is the word of the bytes in the opposite order (rule R125). -/
theorem exec_splw (w : U16) : exec (.splw w) s = .next (s.respond .none (zext64 (wordOf (loByte w) (hiByte w)))) := by
  rw [← byte0_eq_hiByte, ← byte1_eq_loByte]
  rfl

end Sys2Proof.Machine

namespace Sys2Proof.Proofs

open Sys2Proof.Machine

/-- Settles O21: the response is `maskByte`, whose two cases are the flag's (rule R121). -/
theorem mskbMasksAByte : Obligations.MskbMasksAByte := by
  refine ⟨(rowReadsAs_of_row (op := 0x10) rfl).congr_build (by simp), fun s value mask invert => ?_⟩
  exact ⟨_, _, exec_mskb s value mask invert, respond_responded .., fun normal => normal ▸ maskByte_false value mask,
    fun inverted => inverted ▸ maskByte_true value mask, respond_frame s _ _⟩

/-- Settles O22: the response is `maskWord`, whose two cases are the flag's (rule R122). -/
theorem mskwMasksAWord : Obligations.MskwMasksAWord := by
  refine ⟨(rowReadsAs_of_row (op := 0x11) rfl).congr_build (by simp), fun s value mask invert => ?_⟩
  exact ⟨_, _, exec_mskw s value mask invert, respond_responded .., fun normal => normal ▸ maskWord_false value mask,
    fun inverted => inverted ▸ maskWord_true value mask, respond_frame s _ _⟩

/-- Settles O23: the response is the word of the two bytes (rule R124). -/
theorem cmpwComposesHighByteFirst : Obligations.CmpwComposesHighByteFirst := by
  refine ⟨(rowReadsAs_of_row (op := 0x12) rfl).congr_build (by simp), fun s b0 b1 => ?_⟩
  exact ⟨_, _, exec_cmpw s b0 b1, respond_responded .., (zext64_toNat _).trans (wordOf_toNat b0 b1), respond_frame s _ _⟩

/-- Settles O24: the response is the word of the low and the high byte (rule R125). -/
theorem splwPacksTheBytesInTransmissionOrder : Obligations.SplwPacksTheBytesInTransmissionOrder := by
  refine ⟨(rowReadsAs_of_row (op := 0x13) rfl).congr_build (by simp), fun s w => ?_⟩
  refine ⟨_, _, exec_splw s w, respond_responded .., ?_, respond_frame s _ _⟩
  rw [zext64_toNat, wordOf_toNat, loByte_toNat, hiByte_toNat]

end Sys2Proof.Proofs
end

section
/-! Field access (rules R127 to R131). The getters make one read, `SETCFG` one write; a setter makes a read and, when it
succeeded, a write of what was read. -/

namespace Sys2Proof.Machine

/-! ### A write after another transaction -/

section
variable {s t u : State} {h : Handle} {tr tr₁ : Transaction} {m k : Nat} {addr : U8} {l : List U8}

theorem Transacted.elapsed (made : Transacted s t [tr] m) (f : KeepsFixed s t) (h : Handle) (k : Nat) :
    Elapsed t h k = Elapsed s h (k + 1) := by
  rw [Elapsed, Elapsed, made.answerAt, f.handle]

/-- A write after one transaction is the write that takes the answer after it. -/
theorem IsWrite.after (w : IsWrite t h addr l k tr) (made : Transacted s t [tr₁] m) (f : KeepsFixed s t) :
    IsWrite s h addr l (k + 1) tr := by
  obtain ⟨req, taken, lost⟩ := w
  rw [f.handle] at req
  rw [made.succeeds f] at taken lost
  exact ⟨req, taken, lost⟩

/-- One transaction, and then the write of a `MemWrite`. -/
theorem Transacted.then_write (made : Transacted s t [tr₁] m) (f : KeepsFixed s t)
    (written : Transacted t u
      [⟨t.writeRequest h addr l, t.answer.response (t.writeRequest h addr l) (t.memLimit h)⟩] (Elapsed t h 0)) :
    ∃ tr₂, IsWrite s h addr l 1 tr₂ ∧ Transacted s u [tr₁, tr₂] (Elapsed s h 1) := by
  rw [made.elapsed f] at written
  exact ⟨_, (isWrite_xact t h addr l).after made f, made.append written⟩

/-- What a read received stays in `RXB` over operations that keep it. -/
theorem Received1.trans (r : Received1 s t h k) (kept : KeepsRx t u) : Received1 s u h k := by
  intro hs
  rw [kept.rxb0, kept.rxb1]
  exact r hs

theorem Received2.trans (r : Received2 s t h k) (kept : KeepsRx t u) : Received2 s u h k := by
  intro hs
  rw [kept.rxb0, kept.rxb1]
  exact r hs

end

/-! ### The bytes of a successful read -/

section
variable {s : State} {h : Handle}

theorem memRead_byte0_of_succeeds (hs : Succeeds s h 0) (addr : U8) (n : Nat) :
    (memRead h addr n s).byte0 = (s.answerAt 0).data0 :=
  (memRead_byte0 s h addr n).1 hs

/-- The word that a successful two-byte read takes from the answer (rule R101). -/
theorem Word0.eq_wordOf {k : Nat} {w : U16} (hw : Word0 s h k w) (hs : Succeeds s h k) :
    w = wordOf (s.answerAt k).data0 (s.answerAt k).data1 :=
  BitVec.eq_of_toNat_eq ((hw.1 hs).trans (wordOf_toNat _ _).symm)

end

/-! ### The commands -/

section
variable (s : State) (h : Handle) (addr : U8)

theorem exec_fgetb (mask : U8) : exec (.fgetb h addr mask) s =
    .next ((memRead h addr 1 s).state.respond .none (((memRead h addr 1 s).byte0 &&& mask).setWidth 64)) := rfl

theorem exec_fgetw (mask : U16) : exec (.fgetw h addr mask) s =
    .next ((memRead h addr 2 s).state.respond .none (((memRead h addr 2 s).word &&& mask).setWidth 64)) := rfl

theorem exec_setcfg (value : U16) : exec (.setcfg h value) s =
    .next ((memWrite2 h (s.addrOf (configReg h)) value s).state.respondBus
      (memWrite2 h (s.addrOf (configReg h)) value s).ok 0) := rfl

/-- The configuration register of a handle (rule R131). -/
theorem addrOf_configReg : s.addrOf (configReg h) = if h = .mon then s.cfg.monConfig else s.cfg.encConfHi := by
  cases h <;> rfl

end

section
variable {s : State} {h : Handle}

/-- `FSETB` after a failed read (rule R128). -/
theorem exec_fsetb_of_fails (hs : ¬ Succeeds s h 0) (addr mask bits : U8) :
    exec (.fsetb h addr mask bits) s = .next ((memRead h addr 1 s).state.respond .bus 0) :=
  congrArg Host.Outcome.next (if_pos (Bool.eq_false_iff.2 (mt (memRead_ok s h addr 1).1 hs)))

/-- `FSETB` after a successful read: the write of `new` (rule R128). -/
theorem exec_fsetb_of_succeeds {addr mask bits new : U8} (hs : Succeeds s h 0)
    (hnew : new = ((memRead h addr 1 s).byte0 &&& ~~~mask) ||| bits) :
    exec (.fsetb h addr mask bits) s = .next ((memWrite1 h addr new (memRead h addr 1 s).state).state.respondBus
      (memWrite1 h addr new (memRead h addr 1 s).state).ok 0) := by
  subst hnew
  exact congrArg Host.Outcome.next (if_neg (by simp [(memRead_ok s h addr 1).2 hs]))

/-- `FSETW` after a failed read (rule R130). -/
theorem exec_fsetw_of_fails (hs : ¬ Succeeds s h 0) (addr : U8) (mask bits : U16) :
    exec (.fsetw h addr mask bits) s = .next ((memRead h addr 2 s).state.respond .bus 0) :=
  congrArg Host.Outcome.next (if_pos (Bool.eq_false_iff.2 (mt (memRead_ok s h addr 2).1 hs)))

/-- `FSETW` after a successful read: the write of `new` (rule R130). -/
theorem exec_fsetw_of_succeeds {addr : U8} {mask bits new : U16} (hs : Succeeds s h 0)
    (hnew : new = ((memRead h addr 2 s).word &&& ~~~mask) ||| bits) :
    exec (.fsetw h addr mask bits) s = .next ((memWrite2 h addr new (memRead h addr 2 s).state).state.respondBus
      (memWrite2 h addr new (memRead h addr 2 s).state).ok 0) := by
  subst hnew
  exact congrArg Host.Outcome.next (if_neg (by simp [(memRead_ok s h addr 2).2 hs]))

end

end Sys2Proof.Machine

namespace Sys2Proof.Proofs

open Sys2Proof.Machine

/-- Settles O27: one `MemRead` of one byte, masked, its outcome not examined (rule R127). -/
theorem fgetbReadsAFieldUnreported : Obligations.FgetbReadsAFieldUnreported := by
  refine ⟨(rowReadsAs_of_row (op := 0x20) rfl).congr_build (by simp), fun s h addr mask => ?_⟩
  obtain ⟨fixed, cal, tx, made⟩ := memRead_frame s h addr 1
  exact ⟨_, _, _, exec_fgetb s h addr mask, isRead1_xact s h addr, made.respond .., memRead_byte0 s h addr 1,
    (memRead1_received s h addr).respond _ _, respond_responded .., fixed.respond .., cal.respond .., tx.respond ..⟩

/-- Settles O28: by the outcome of the read (rule R128). -/
theorem fsetbUpdatesAFieldByReadAndWrite : Obligations.FsetbUpdatesAFieldByReadAndWrite := by
  refine ⟨(rowReadsAs_of_row (op := 0x21) rfl).congr_build (by simp), fun s h addr mask bits => ?_⟩
  obtain ⟨fixed, cal, tx, made⟩ := memRead_frame s h addr 1
  have received := memRead1_received s h addr
  have isRead := isRead1_xact s h addr
  by_cases read : Succeeds s h 0
  · obtain ⟨new, hnew⟩ : ∃ new, new = ((s.answerAt 0).data0 &&& ~~~mask) ||| bits := ⟨_, rfl⟩
    have run := exec_fsetb_of_succeeds read ((memRead_byte0_of_succeeds read addr 1).symm ▸ hnew)
    obtain ⟨fixed', cal', rx', ⟨sent, kept⟩, written⟩ := memWrite1_frame (memRead h addr 1 s).state h addr new
    obtain ⟨tr₂, isWrite, both⟩ := made.then_write fixed written
    have ok := (memWrite1_ok (memRead h addr 1 s).state h addr new).trans (made.succeeds fixed h 0)
    exact ⟨_, _, run, isRead, (received.trans rx').respond _ _, (fixed.trans fixed').respond .., (cal.trans cal').respond ..,
      absurd read, fun _ => ⟨new, tr₂, hnew, isWrite, both.respond .., sent, kept.trans tx.txb1,
        fun hs => respondBus_of_ok _ (ok.2 hs) _, fun hs => respondBus_of_fail _ (mt ok.1 hs) _⟩⟩
  · exact ⟨_, _, exec_fsetb_of_fails read addr mask bits, isRead, received.respond _ _, fixed.respond .., cal.respond ..,
      fun _ => ⟨respond_responded .., made.respond .., tx.respond ..⟩, fun hs => absurd hs read⟩

/-- Settles O29: one `MemRead` of two bytes, masked, its outcome not examined (rule R129). -/
theorem fgetwReadsAFieldUnreported : Obligations.FgetwReadsAFieldUnreported := by
  refine ⟨(rowReadsAs_of_row (op := 0x22) rfl).congr_build (by simp), fun s h addr mask => ?_⟩
  obtain ⟨fixed, cal, tx, made⟩ := memRead_frame s h addr 2
  exact ⟨_, _, _, exec_fgetw s h addr mask, isRead2_xact s h addr, made.respond .., memRead_word s h addr 2,
    (memRead2_received s h addr).respond _ _, respond_responded .., fixed.respond .., cal.respond .., tx.respond ..⟩

/-- Settles O30: by the outcome of the read (rule R130). -/
theorem fsetwUpdatesAFieldByReadAndWrite : Obligations.FsetwUpdatesAFieldByReadAndWrite := by
  refine ⟨(rowReadsAs_of_row (op := 0x23) rfl).congr_build (by simp), fun s h addr mask bits => ?_⟩
  obtain ⟨fixed, cal, tx, made⟩ := memRead_frame s h addr 2
  have received := memRead2_received s h addr
  have isRead := isRead2_xact s h addr
  by_cases read : Succeeds s h 0
  · obtain ⟨new, hnew⟩ : ∃ new, new = ((memRead h addr 2 s).word &&& ~~~mask) ||| bits := ⟨_, rfl⟩
    obtain ⟨fixed', cal', rx', sent, written⟩ := memWrite2_frame (memRead h addr 2 s).state h addr new
    obtain ⟨tr₂, isWrite, both⟩ := made.then_write fixed written
    have ok := (memWrite2_ok (memRead h addr 2 s).state h addr new).trans (made.succeeds fixed h 0)
    exact ⟨_, _, exec_fsetw_of_succeeds read hnew, isRead, (received.trans rx').respond _ _, (fixed.trans fixed').respond ..,
      (cal.trans cal').respond .., absurd read,
      fun _ => ⟨_, new, tr₂, memRead_word s h addr 2, hnew, isWrite, both.respond .., sent.respond ..,
        fun hs => respondBus_of_ok _ (ok.2 hs) _, fun hs => respondBus_of_fail _ (mt ok.1 hs) _⟩⟩
  · exact ⟨_, _, exec_fsetw_of_fails read addr mask bits, isRead, received.respond _ _, fixed.respond .., cal.respond ..,
      fun _ => ⟨respond_responded .., made.respond .., tx.respond ..⟩, fun hs => absurd hs read⟩

/-- Settles O31: one `MemWrite` of two bytes at the handle's configuration register, reported (rule R131). -/
theorem setcfgReplacesTheConfiguration : Obligations.SetcfgReplacesTheConfiguration := by
  refine ⟨(rowReadsAs_of_row (op := 0x24) rfl).congr_build (by simp), fun s h value => ?_⟩
  rw [← addrOf_configReg]
  obtain ⟨fixed, cal, rx, sent, made⟩ := memWrite2_frame s h (s.addrOf (configReg h)) value
  have ok := memWrite2_ok s h (s.addrOf (configReg h)) value
  exact ⟨_, _, exec_setcfg s h value, isWrite_xact s h _ [hiByte value, loByte value], made.respond .., sent.respond ..,
    fun hs => respondBus_of_ok _ (ok.2 hs) _, fun hs => respondBus_of_fail _ (mt ok.1 hs) _,
    fixed.respond .., cal.respond .., rx.respond ..⟩

/-! ### Sibling preservation (rule R132) -/

section
variable {s t : State} {h : Handle} {a : U8}

/-- A setter that answers `ok` = 1 has read its register. -/
theorem succeeds_of_rok {p : Prop} (rok : t.rok = true) (fails : ¬ Succeeds s h 0 → Responded t .bus 0 ∧ p) :
    Succeeds s h 0 :=
  of_not_not fun hs => nomatch (fails hs).1.rok.1 rok

theorem fsetb_writes_update {m b : U8} (run : exec (.fsetb h a m b) s = .next t) (rok : t.rok = true) :
    ∃ tr, t.bus.getLast? = some tr ∧ tr.req.kind = .memWrite ∧ tr.req.reg = a ∧
      tr.req.wdata = [((s.answerAt 0).data0 &&& ~~~m) ||| b] := by
  obtain ⟨t', tr₁, run', -, -, -, -, fails, writes⟩ := fsetbUpdatesAFieldByReadAndWrite.2 s h a m b
  obtain rfl := Host.Outcome.next.inj (run.symm.trans run')
  obtain ⟨_, tr, rfl, ⟨req, -⟩, made, -⟩ := writes (succeeds_of_rok rok fails)
  refine ⟨tr, ?_, ?_, ?_, ?_⟩
  · simp [made.bus]
  all_goals rw [req]

theorem fsetw_writes_update {m b : U16} (run : exec (.fsetw h a m b) s = .next t) (rok : t.rok = true) :
    ∃ tr new, t.bus.getLast? = some tr ∧ tr.req.kind = .memWrite ∧ tr.req.reg = a ∧ tr.req.wdata = [hiByte new, loByte new] ∧
      new = (wordOf (s.answerAt 0).data0 (s.answerAt 0).data1 &&& ~~~m) ||| b := by
  obtain ⟨t', tr₁, run', -, -, -, -, fails, writes⟩ := fsetwUpdatesAFieldByReadAndWrite.2 s h a m b
  obtain rfl := Host.Outcome.next.inj (run.symm.trans run')
  have read := succeeds_of_rok rok fails
  obtain ⟨old, new, tr, hold, hnew, ⟨req, -⟩, made, -⟩ := writes read
  refine ⟨tr, new, ?_, ?_, ?_, ?_, hold.eq_wordOf read ▸ hnew⟩
  · simp [made.bus]
  all_goals rw [req]

theorem fgetb_of_succeeds (read : Succeeds s h 0) (m : U8) :
    ∃ u, exec (.fgetb h a m) s = .next u ∧ Responded u .none (((s.answerAt 0).data0 &&& m).setWidth 64) := by
  obtain ⟨u, _, b, run, -, -, byte, -, responded, -⟩ := fgetbReadsAFieldUnreported.2 s h a m
  exact ⟨u, run, byte.1 read ▸ responded⟩

theorem fgetw_of_succeeds (read : Succeeds s h 0) (m : U16) :
    ∃ u, exec (.fgetw h a m) s = .next u ∧
      Responded u .none ((wordOf (s.answerAt 0).data0 (s.answerAt 0).data1 &&& m).setWidth 64) := by
  obtain ⟨u, _, w, run, -, -, word, -, responded, -⟩ := fgetwReadsAFieldUnreported.2 s h a m
  exact ⟨u, run, word.eq_wordOf read ▸ responded⟩

end

/-- Settles O32: the setter writes the update of what it read, a getter masks what it receives, and the laws of the masks say
what the update reads as. -/
theorem fieldUpdatePreservesSiblings : Obligations.FieldUpdatePreservesSiblings := by
  refine ⟨fun s t h a m b old run rok hold within => ?_, fun s t h a m b old run rok hold within => ?_⟩
  · obtain ⟨tr, last, kind, reg, wdata⟩ := fsetb_writes_update run rok
    refine ⟨tr, _, last, kind, reg, wdata, by rw [hold], fun s₂ m₂ read received => ?_⟩
    obtain ⟨u, run₂, responded⟩ := fgetb_of_succeeds (a := a) read m₂
    rw [received, hold] at responded
    exact ⟨u, _, run₂, responded, by rintro rfl; exact update_and_mask within, update_and_disjoint within⟩
  · obtain ⟨tr, new, last, kind, reg, wdata, hnew⟩ := fsetw_writes_update run rok
    rw [hold] at hnew
    refine ⟨tr, new, last, kind, reg, wdata, hnew, fun s₂ m₂ read high low => ?_⟩
    obtain ⟨u, run₂, responded⟩ := fgetw_of_succeeds (a := a) read m₂
    rw [high, low, wordOf_hiByte_loByte, hnew] at responded
    exact ⟨u, _, run₂, responded, by rintro rfl; exact update_and_mask within, update_and_disjoint within⟩

end Sys2Proof.Proofs
end

section
/-! Field descriptors (rule R133), bit by bit. -/

namespace Sys2Proof.Machine

variable {w wid off : Nat}

/-- The mask of a field has the field's bits. -/
theorem getLsbD_fieldMask (fits : off + wid ≤ w) (i : Nat) :
    (fieldMask w wid off).getLsbD i = decide (off ≤ i ∧ i < off + wid) := by
  rw [fieldMask, BitVec.getLsbD_ofNat, Nat.testBit_shiftLeft, Nat.testBit_two_pow_sub_one]
  simp only [← Bool.decide_and, decide_eq_decide]
  omega

/-- A bit of a right-aligned field is the bit `off` places up. -/
theorem testBit_rightAligned (g : BitVec w) (i : Nat) : (rightAligned g off).testBit i = g.getLsbD (off + i) := by
  rw [rightAligned, BitVec.testBit_toNat, BitVec.getLsbD_ushiftRight]

/-- The bits of an in-place value are the option number's, within the field. -/
theorem getLsbD_inPlace (fits : off + wid ≤ w) (x i : Nat) :
    (inPlace (fieldMask w wid off) off x).getLsbD i = (decide (off ≤ i ∧ i < off + wid) && x.testBit (i - off)) := by
  rw [inPlace, BitVec.getLsbD_and, getLsbD_fieldMask fits, BitVec.getLsbD_shiftLeft, BitVec.getLsbD_ofNat]
  by_cases field : off ≤ i ∧ i < off + wid
  · simp [field, show i < w by omega, show i - off < w by omega, show ¬ i < off by omega]
  · simp [field]

theorem fieldMask_ne_zero (one : 1 ≤ wid) (fits : off + wid ≤ w) : fieldMask w wid off ≠ 0 := by
  intro zero
  have bit := getLsbD_fieldMask fits off
  rw [zero] at bit
  simp at bit
  omega

/-- An option number that fits the field is read back from its in-place value. -/
theorem rightAligned_inPlace (fits : off + wid ≤ w) {x : Nat} (hx : x < 2 ^ wid) :
    rightAligned (inPlace (fieldMask w wid off) off x) off = x := by
  refine Nat.eq_of_testBit_eq fun i => ?_
  rw [testBit_rightAligned, getLsbD_inPlace fits, Nat.add_sub_cancel_left]
  rcases Nat.lt_or_ge i wid with low | high
  · simp [low]
  · simp [Nat.testBit_lt_two_pow (hx.trans_le (Nat.pow_le_pow_right (by decide) high))]

/-- A value within the mask is the in-place value of its option number. -/
theorem inPlace_rightAligned (fits : off + wid ≤ w) {g : BitVec w} (within : g &&& ~~~fieldMask w wid off = 0) :
    inPlace (fieldMask w wid off) off (rightAligned g off) = g := by
  refine BitVec.eq_of_getLsbD_eq fun i _ => ?_
  rw [getLsbD_inPlace fits, testBit_rightAligned]
  by_cases field : off ≤ i ∧ i < off + wid
  · simp [field]
  · have outside := congrArg (·.getLsbD i) (and_not_eq_zero_iff.1 within)
    simpa [getLsbD_fieldMask fits, field] using outside

end Sys2Proof.Machine

namespace Sys2Proof.Proofs

open Sys2Proof.Machine

/-- Settles O33: the two conversions agree bit by bit on the bits of the field. -/
theorem inPlaceValuesShiftBack : Obligations.InPlaceValuesShiftBack := by
  intro w wid off one fits
  refine ⟨fieldMask_ne_zero one fits, fun x hx => ⟨?_, rightAligned_inPlace fits hx⟩, fun g => inPlace_rightAligned fits⟩
  rw [inPlace, and_not_eq_zero_iff, BitVec.and_assoc, BitVec.and_self]

end Sys2Proof.Proofs
end

section
/-! Admitted parameters (rules R7, R158 and R190): which masks and flags have no bit in common. -/

namespace Sys2Proof.Machine

/-- The checks of `Params.admitted` that speak of the bits of masks and flags. -/
theorem admitted_bits {p : Params} (h : p.admitted = true) :
    p.statusFlagsOk = true ∧ p.encMasksOk = true ∧ p.monMasksOk = true := by
  simp only [Params.admitted, Bool.and_eq_true] at h
  obtain ⟨⟨⟨⟨-, flags⟩, encMasks⟩, -⟩, monMasks⟩ := h
  exact ⟨flags, encMasks, monMasks⟩

/-! ### The fields of a register -/

/-- Pairwise disjoint masks (where `R` asks for it) are disjoint for every two different fields of the list. -/
theorem and_eq_zero_of_pairwise {F : Type} {w : Nat} {l : List F} {mask : F → BitVec w} {R : F → F → Prop}
    (symm : ∀ f g, R f g → R g f) (disjoint : l.Pairwise fun f g => R f g → mask f &&& mask g = 0) {f g : F}
    (hf : f ∈ l) (hg : g ∈ l) (ne : f ≠ g) (hR : R f g) : mask f &&& mask g = 0 := by
  have : Std.Symm fun f g => R f g → mask f &&& mask g = 0 :=
    ⟨fun f g h hR => (BitVec.and_comm _ _).trans (h (symm g f hR))⟩
  exact disjoint.forall hf hg ne hR

theorem encMask_ne_zero {p : Params} (h : p.encMasksOk = true) (f : EncField) : encFieldMask p f ≠ 0 := by
  have nonzero := (Bool.and_eq_true_iff.1 h).1
  rw [encDescriptors_eq, List.all_map, List.all_eq_true] at nonzero
  exact bne_iff_ne.1 (nonzero f (by cases f <;> decide))

/-- Different fields at one register address, whichever halves they are of (rules R133 and R158). -/
theorem encMask_disjoint {p : Params} (h : p.encMasksOk = true) {f g : EncField} (ne : f ≠ g)
    (same : encFieldAddr p f = encFieldAddr p g) : encFieldMask p f &&& encFieldMask p g = 0 := by
  have disjoint := of_decide_eq_true (Bool.and_eq_true_iff.1 h).2
  rw [encDescriptors_eq, List.pairwise_map] at disjoint
  exact and_eq_zero_of_pairwise (fun _ _ => Eq.symm) disjoint (by cases f <;> decide) (by cases g <;> decide) ne same

/-- The masks that `Params.admitted` checks are those of the monitor's fields (rule R190). -/
theorem monMasks_eq (p : Params) : p.monMasks = [MonField.vr, .pga, .badc, .sadc, .mode].map (monFieldMask p) := rfl

theorem monMask_ne_zero {p : Params} (h : p.monMasksOk = true) (f : MonField) : monFieldMask p f ≠ 0 := by
  have nonzero := (Bool.and_eq_true_iff.1 (Bool.and_eq_true_iff.1 h).1).2
  rw [monMasks_eq, List.all_map, List.all_eq_true] at nonzero
  exact bne_iff_ne.1 (nonzero f (by cases f <;> decide))

/-- The reset bit is disjoint from every field, and the fields from each other (rules R133 and R190). -/
theorem monMasks_pairwise {p : Params} (h : p.monMasksOk = true) :
    (∀ f, monFieldMask p f &&& p.monCfgRst = 0) ∧ ∀ f g, f ≠ g → monFieldMask p f &&& monFieldMask p g = 0 := by
  have disjoint := of_decide_eq_true (Bool.and_eq_true_iff.1 h).2
  rw [monMasks_eq, List.pairwise_cons, List.forall_mem_map, List.pairwise_map] at disjoint
  obtain ⟨reset, fields⟩ := disjoint
  refine ⟨fun f => (BitVec.and_comm _ _).trans (reset f (by cases f <;> decide)), fun f g ne => ?_⟩
  exact and_eq_zero_of_pairwise (R := fun _ _ => True) (fun _ _ => id) (fields.imp fun h _ => h)
    (by cases f <;> decide) (by cases g <;> decide) ne trivial

/-! ### Flags of one bit -/

section
variable {w : Nat} {v f g : BitVec w}

theorem eq_twoPow_of_oneBit (h : oneBit v = true) : ∃ i, v = BitVec.twoPow w i := by
  simp only [oneBit, Bool.and_eq_true, bne_iff_ne, beq_iff_eq] at h
  obtain ⟨nonzero, single⟩ := h
  have pos : v.toNat ≠ 0 := by simpa [BitVec.toNat_eq] using nonzero
  have lt := v.isLt
  have one : (1 : BitVec w).toNat = 1 := Nat.mod_eq_of_lt (show 1 < 2 ^ w by omega)
  have pred : (v - 1).toNat = v.toNat - 1 := by
    rw [BitVec.toNat_sub_of_le (by rw [BitVec.le_def]; omega), one]
  have power : v.toNat &&& (v.toNat - 1) = 0 := by
    rw [← pred, ← BitVec.toNat_and, single]
    exact BitVec.toNat_zero
  obtain ⟨i, hi⟩ := Nat.ne_zero_and_sub_one_eq_zero_iff_isPowerOfTwo.1 ⟨pos, power⟩
  exact ⟨i, BitVec.eq_of_toNat_eq (by rw [BitVec.toNat_twoPow, ← hi, Nat.mod_eq_of_lt lt])⟩

/-- Two flags of one bit each that have a bit in common are the same flag. -/
theorem eq_of_oneBit_and_ne_zero (hf : oneBit f = true) (hg : oneBit g = true) (common : f &&& g ≠ 0) : f = g := by
  obtain ⟨i, rfl⟩ := eq_twoPow_of_oneBit hf
  obtain ⟨j, rfl⟩ := eq_twoPow_of_oneBit hg
  rw [BitVec.and_twoPow, BitVec.getLsbD_twoPow] at common
  by_cases same : i = j
  · rw [same]
  · simp [same] at common

end

end Sys2Proof.Machine

namespace Sys2Proof.Proofs

open Sys2Proof.Machine

/-- Settles O35: the descriptors and masks that `Params.admitted` checks are those of the fields. -/
theorem fieldsOfOneRegisterAreDisjoint : Obligations.FieldsOfOneRegisterAreDisjoint := by
  intro p h
  obtain ⟨-, encMasks, monMasks⟩ := admitted_bits h
  obtain ⟨reset, fields⟩ := monMasks_pairwise monMasks
  exact ⟨fun _ _ => encMask_disjoint encMasks, encMask_ne_zero encMasks, fields,
    fun f => ⟨monMask_ne_zero monMasks f, reset f⟩⟩

end Sys2Proof.Proofs
end

section
/-! Direction correction (rule R140), by the numbers of the words. -/

namespace Sys2Proof.Machine

/-- `AND 0x0FFF` is the remainder modulo 0x1000. -/
theorem and_0x0FFF_toNat (w : U16) : (w &&& 0x0FFF).toNat = w.toNat % 0x1000 := by
  rw [BitVec.toNat_and]
  exact Nat.and_two_pow_sub_one_eq_mod w.toNat 12

/-- The formula of rule R140. -/
theorem reflect12_toNat_formula (raw : U16) :
    (reflect12 raw).toNat = (0x0FFF + 0x10000 - raw.toNat) % 0x10000 % 0x1000 := by
  have := raw.isLt
  refine (and_0x0FFF_toNat _).trans ?_
  rw [BitVec.toNat_sub, BitVec.toNat_ofNat]
  omega

theorem reflect12_toNat (raw : U16) : (reflect12 raw).toNat = 0x0FFF - raw.toNat % 0x1000 := by
  have := raw.isLt
  rw [reflect12_toNat_formula]
  omega

theorem reflect12_eq_not_and (raw : U16) : reflect12 raw = ~~~raw &&& 0x0FFF := by
  have := raw.isLt
  apply BitVec.eq_of_toNat_eq
  rw [reflect12_toNat, and_0x0FFF_toNat, BitVec.toNat_not]
  omega

/-- Reflection twice keeps the low twelve bits. -/
theorem reflect12_reflect12 (raw : U16) : reflect12 (reflect12 raw) = raw &&& 0x0FFF := by
  apply BitVec.eq_of_toNat_eq
  rw [reflect12_toNat, reflect12_toNat, and_0x0FFF_toNat]
  omega

/-- The corrected angle for each direction: the whole word for `CW`, reflected for `CCW`. -/
theorem dircorr_toNat (dir : Dir) (raw : U16) :
    (dir = .cw → (dircorr dir raw).toNat = raw.toNat) ∧
      (dir = .ccw → (dircorr dir raw).toNat = 0x0FFF - raw.toNat % 0x1000) := by
  cases dir
  · exact ⟨fun _ => rfl, nofun⟩
  · exact ⟨nofun, fun _ => reflect12_toNat raw⟩

end Sys2Proof.Machine

namespace Sys2Proof.Proofs

open Sys2Proof.Machine

/-- Settles O36: each form of the reflection has the number `0x0FFF - raw % 0x1000`. -/
theorem reflectionIsTheTwelveBitOnesComplement : Obligations.ReflectionIsTheTwelveBitOnesComplement := by
  intro raw
  have range : (reflect12 raw).toNat ≤ 0x0FFF := by
    rw [reflect12_toNat]
    exact Nat.sub_le ..
  exact ⟨reflect12_toNat_formula raw, reflect12_toNat raw, reflect12_eq_not_and raw, range, rfl, rfl,
    reflect12_reflect12 raw, rfl, rfl⟩

end Sys2Proof.Proofs
end

section
/-! The encoder's getters (rules R141 to R143): one two-byte read whose outcome is not reported (rule R200), and a value computed
from its word. -/

namespace Sys2Proof.Machine

variable {s : State}

/-- What a command does that makes one two-byte read and answers with a function of its word. -/
theorem answers_from_word {i : Instr} {h : Handle} {addr : U8} (f : U16 → U64)
    (run : exec i s = .next ((memRead h addr 2 s).state.respond .none (f (memRead h addr 2 s).word))) :
    ∃ t tr w, exec i s = .next t ∧ IsRead2 s h addr 0 tr ∧ Transacted s t [tr] (Elapsed s h 0) ∧ Word0 s h 0 w ∧
      Received2 s t h 0 ∧ Responded t .none (f w) ∧ KeepsFixed s t ∧ KeepsCalibration s t ∧ KeepsTx s t := by
  obtain ⟨fixed, cal, tx, made⟩ := memRead_frame s h addr 2
  exact ⟨_, _, _, run, isRead2_xact s h addr, made.respond .., memRead_word s h addr 2,
    (memRead2_received s h addr).respond _ _, respond_responded .., fixed.respond .., cal.respond .., tx.respond ..⟩

/-! ### The commands -/

section
variable (s)

theorem exec_egraw : exec .egraw s = .next ((memRead .enc s.cfg.encRawAngle 2 s).state.respond .none
    (zext64 (dircorr s.dir (memRead .enc s.cfg.encRawAngle 2 s).word))) := rfl

theorem exec_egang : exec .egang s = .next ((memRead .enc s.cfg.encAngle 2 s).state.respond .none
    (zext64 (dircorr s.dir (memRead .enc s.cfg.encAngle 2 s).word))) := rfl

theorem exec_egreal (unit : AngleUnit) : exec (.egreal unit) s = .next ((memRead .enc s.cfg.encAngle 2 s).state.respond .none
    (u64 (angleCount unit (dircorr s.dir (memRead .enc s.cfg.encAngle 2 s).word)))) := rfl

end

/-- A command that answers the corrected word of an angle register (rules R141 and R142). -/
theorem answers_corrected_angle {i : Instr} {addr : U8}
    (run : exec i s = .next ((memRead .enc addr 2 s).state.respond .none
      (zext64 (dircorr s.dir (memRead .enc addr 2 s).word)))) :
    ∃ t tr w v, exec i s = .next t ∧
      IsRead2 s .enc addr 0 tr ∧ Transacted s t [tr] (Elapsed s .enc 0) ∧ Word0 s .enc 0 w ∧
      Received2 s t .enc 0 ∧ Responded t .none v ∧ (s.dir = .cw → v.toNat = w.toNat) ∧
      (s.dir = .ccw → v.toNat = 0x0FFF - w.toNat % 0x1000) ∧ KeepsFixed s t ∧ KeepsCalibration s t ∧ KeepsTx s t := by
  obtain ⟨t, tr, w, run, read, made, word, received, responded, frame⟩ :=
    answers_from_word (fun w => zext64 (dircorr s.dir w)) run
  obtain ⟨cw, ccw⟩ := dircorr_toNat s.dir w
  rw [← zext64_toNat] at cw ccw
  exact ⟨t, tr, w, _, run, read, made, word, received, responded, cw, ccw, frame⟩

/-- A natural number that fits in 64 bits is its own encoding (rule R11). -/
theorem u64_natCast_toNat {n : Nat} (h : n < 2 ^ 64) : (u64 n).toNat = n := by
  rw [u64, BitVec.ofInt_natCast, BitVec.toNat_ofNat, Nat.mod_eq_of_lt h]

/-- The count of `EGREAL` in each unit (rule R143). -/
theorem u64_angleCount_toNat (unit : AngleUnit) (a : U16) :
    (unit = .deg → (u64 (angleCount unit a)).toNat = 45 * a.toNat) ∧
      (unit = .rad → (u64 (angleCount unit a)).toNat = a.toNat) := by
  have := a.isLt
  cases unit
  · exact ⟨fun _ => u64_natCast_toNat (n := 45 * a.toNat) (by omega), nofun⟩
  · exact ⟨nofun, fun _ => u64_natCast_toNat (n := a.toNat) (by omega)⟩

end Sys2Proof.Machine

namespace Sys2Proof.Proofs

open Sys2Proof.Machine

/-- Settles O37: the corrected word of `ENC_REG_RAW_ANGLE` (rule R141). -/
theorem egrawReadsTheRawAngle : Obligations.EgrawReadsTheRawAngle :=
  ⟨rowReadsAs_of_row (op := 0x30) rfl, fun s => answers_corrected_angle (exec_egraw s)⟩

/-- Settles O38: the corrected word of `ENC_REG_ANGLE` (rule R142). -/
theorem egangReadsTheFilteredAngle : Obligations.EgangReadsTheFilteredAngle :=
  ⟨rowReadsAs_of_row (op := 0x31) rfl, fun s => answers_corrected_angle (exec_egang s)⟩

/-- Settles O39: the count of the corrected word of `ENC_REG_ANGLE` (rule R143). -/
theorem egrealScalesTheCorrectedAngle : Obligations.EgrealScalesTheCorrectedAngle := by
  refine ⟨rowReadsAs_of_row (op := 0x32) rfl, fun s unit => ?_⟩
  obtain ⟨t, tr, w, run, read, made, word, received, responded, frame⟩ :=
    answers_from_word (fun w => u64 (angleCount unit (dircorr s.dir w))) (exec_egreal s unit)
  obtain ⟨cw, ccw⟩ := dircorr_toNat s.dir w
  obtain ⟨deg, rad⟩ := u64_angleCount_toNat unit (dircorr s.dir w)
  exact ⟨t, tr, w, _, _, run, read, made, word, received, cw, ccw, responded, deg, rad, frame⟩

end Sys2Proof.Proofs
end

section
/-! The position setters (rules R144 to R147): the range, and then one reported two-byte write. -/

namespace Sys2Proof.Machine

variable {s : State} {value : U16}

/-- A position out of range is rejected with no transaction (rule R144). -/
theorem setpos_of_gt (r : SymReg) (high : 0x0FFF < value.toNat) : setpos r value s = s.respond .range 0 := if_pos high

theorem setpos_of_le (r : SymReg) (inRange : value.toNat ≤ 0x0FFF) :
    setpos r value s = (memWrite2 .enc (s.addrOf r) value s).state.respondBus (memWrite2 .enc (s.addrOf r) value s).ok 0 :=
  if_neg (Nat.not_lt.2 inRange)

/-- The position setters are `setpos` at their registers (rules R145 to R147). -/
theorem exec_position_setter {i : Instr} {reg : U8}
    (h : i = .eszpos value ∧ reg = s.cfg.encZpos ∨ i = .esmpos value ∧ reg = s.cfg.encMpos ∨
      i = .esmang value ∧ reg = s.cfg.encMang) :
    ∃ r, s.addrOf r = reg ∧ exec i s = .next (setpos r value s) := by
  obtain ⟨rfl, rfl⟩ | ⟨rfl, rfl⟩ | ⟨rfl, rfl⟩ := h
  · exact ⟨.encZpos, rfl, rfl⟩
  · exact ⟨.encMpos, rfl, rfl⟩
  · exact ⟨.encMang, rfl, rfl⟩

end Sys2Proof.Machine

namespace Sys2Proof.Proofs

open Sys2Proof.Machine

/-- Settles O40: by the range of the value (rule R144). -/
theorem positionSettersCheckTheRangeFirst : Obligations.PositionSettersCheckTheRangeFirst := by
  refine ⟨rowReadsAs_of_row (op := 0x33) rfl, rowReadsAs_of_row (op := 0x34) rfl, rowReadsAs_of_row (op := 0x35) rfl,
    fun s value i reg setter => ?_⟩
  obtain ⟨r, rfl, run⟩ := exec_position_setter setter
  rcases Nat.lt_or_ge 0x0FFF value.toNat with high | inRange
  · rw [setpos_of_gt r high] at run
    obtain ⟨fixed, cal, tx, rx, noTransaction⟩ := respond_frame s .range 0
    exact ⟨_, run, fixed, cal, rx, fun _ => ⟨respond_responded .., noTransaction, tx⟩,
      fun h => absurd high (Nat.not_lt.2 h)⟩
  · rw [setpos_of_le r inRange] at run
    obtain ⟨fixed, cal, rx, sent, made⟩ := memWrite2_frame s .enc (s.addrOf r) value
    have ok := memWrite2_ok s .enc (s.addrOf r) value
    exact ⟨_, run, fixed.respond .., cal.respond .., rx.respond .., fun h => absurd h (Nat.not_lt.2 inRange),
      fun _ => ⟨_, isWrite_xact s .enc _ [hiByte value, loByte value], made.respond .., sent.respond ..,
        fun hs => respondBus_of_ok _ (ok.2 hs) _, fun hs => respondBus_of_fail _ (mt ok.1 hs) _⟩⟩

end Sys2Proof.Proofs
end

section
/-! The magnet queries (rules R148 to R151): one one-byte read, and the whole byte compared. -/

namespace Sys2Proof.Machine

variable {s : State}

/-- The magnet queries are `magq` of their flags (rules R149 to R151). -/
theorem exec_magnet_query {i : Instr} {flag : U8}
    (h : i = .emdet ∧ flag = s.cfg.encStMd ∨ i = .emstr ∧ flag = s.cfg.encStMh ∨ i = .emweak ∧ flag = s.cfg.encStMl) :
    exec i s = .next ((memRead .enc s.cfg.encStatus 1 s).state.respond .none
      (boolVal ((memRead .enc s.cfg.encStatus 1 s).byte0 == flag))) := by
  obtain ⟨rfl, rfl⟩ | ⟨rfl, rfl⟩ | ⟨rfl, rfl⟩ := h <;> rfl

theorem boolVal_beq_of_eq {b flag : U8} (h : b = flag) : boolVal (b == flag) = 1 := if_pos (beq_iff_eq.2 h)

theorem boolVal_beq_of_ne {b flag : U8} (h : b ≠ flag) : boolVal (b == flag) = 0 := if_neg (mt beq_iff_eq.1 h)

/-- The flag of each magnet query is one of the three status flags (rules R149 to R151). -/
theorem exists_flag_of_magnet_query {p : Params} {i : Instr} (h : i = .emdet ∨ i = .emstr ∨ i = .emweak) :
    ∃ flag ∈ [p.encStMd, p.encStMl, p.encStMh],
      i = .emdet ∧ flag = p.encStMd ∨ i = .emstr ∧ flag = p.encStMh ∨ i = .emweak ∧ flag = p.encStMl := by
  obtain rfl | rfl | rfl := h
  · exact ⟨p.encStMd, by simp, .inl ⟨rfl, rfl⟩⟩
  · exact ⟨p.encStMh, by simp, .inr (.inl ⟨rfl, rfl⟩)⟩
  · exact ⟨p.encStMl, by simp, .inr (.inr ⟨rfl, rfl⟩)⟩

theorem oneBit_of_admitted {p : Params} (h : p.admitted = true) {flag : U8}
    (hf : flag ∈ [p.encStMd, p.encStMl, p.encStMh]) : oneBit flag = true := by
  obtain ⟨flags, -⟩ := admitted_bits h
  exact List.all_eq_true.1 (Bool.and_eq_true_iff.1 flags).1 flag hf

end Sys2Proof.Machine

namespace Sys2Proof.Proofs

open Sys2Proof.Machine

/-- Settles O41: one `MemRead` of the status byte, compared whole, its outcome not examined (rule R148). -/
theorem magnetQueriesCompareTheWholeByte : Obligations.MagnetQueriesCompareTheWholeByte := by
  refine ⟨rowReadsAs_of_row (op := 0x36) rfl, rowReadsAs_of_row (op := 0x37) rfl, rowReadsAs_of_row (op := 0x38) rfl,
    fun s i flag query => ?_⟩
  obtain ⟨fixed, cal, tx, made⟩ := memRead_frame s .enc s.cfg.encStatus 1
  refine ⟨_, _, _, exec_magnet_query query, isRead1_xact s .enc s.cfg.encStatus, made.respond ..,
    memRead_byte0 s .enc s.cfg.encStatus 1, (memRead1_received s .enc s.cfg.encStatus).respond _ _, fun eq => ?_, fun ne => ?_,
    fixed.respond .., cal.respond .., tx.respond ..⟩
  · rw [boolVal_beq_of_eq eq]
    exact respond_responded ..
  · rw [boolVal_beq_of_ne ne]
    exact respond_responded ..

/-- Settles O42: a byte equal to a flag of one bit has no bit of two different flags (rules R7 and R148). -/
theorem twoStatusFlagsAnswerFalse : Obligations.TwoStatusFlagsAnswerFalse := by
  intro s f g admitted read hf hg ne hasF hasG i query
  obtain ⟨flag, hflag, query⟩ := exists_flag_of_magnet_query (p := s.cfg) query
  obtain ⟨t, -, b, run, -, -, byte, -, -, differs, -⟩ := magnetQueriesCompareTheWholeByte.2.2.2 s i flag query
  refine ⟨t, run, differs fun equal => ne ?_⟩
  rw [← byte.1 read, equal] at hasF hasG
  have one := oneBit_of_admitted admitted hflag
  calc f = flag := (eq_of_oneBit_and_ne_zero one (oneBit_of_admitted admitted hf) hasF).symm
    _ = g := eq_of_oneBit_and_ne_zero one (oneBit_of_admitted admitted hg) hasG

end Sys2Proof.Proofs
end

section
/-! The calibration value (rule R167) and the bus-voltage count (rule R166). -/

namespace Sys2Proof.Machine

/-- The least product whose rounded quotient fits in 16 bits. -/
theorem rdiv_kCal_le_iff {x : Nat} (pos : 0 < x) : rdiv kCal x ≤ 0xFFFF ↔ 20480156252 ≤ x := by
  rw [rdiv_le_iff pos, kCal]
  omega

section
variable {i r : U32}

theorem calDefined_iff : calDefined i r = true ↔ 0 < i.toNat * r.toNat ∧ rdiv kCal (i.toNat * r.toNat) ≤ 0xFFFF := by
  rw [calDefined, Bool.and_eq_true, decide_eq_true_iff, decide_eq_true_iff]

/-- The domain of `calval` by the product alone. -/
theorem calDefined_iff_le : calDefined i r = true ↔ 20480156252 ≤ i.toNat * r.toNat := by
  rw [calDefined_iff]
  constructor
  · rintro ⟨pos, fits⟩
    exact (rdiv_kCal_le_iff pos).1 fits
  · intro large
    have pos : 0 < i.toNat * r.toNat := Nat.lt_of_lt_of_le (by decide) large
    exact ⟨pos, (rdiv_kCal_le_iff pos).2 large⟩

theorem calDefined_eq_false_iff : calDefined i r = false ↔ i.toNat * r.toNat < 20480156252 := by
  rw [← Bool.not_eq_true, calDefined_iff_le, Nat.not_le]

/-- In the domain `CALREG` holds the whole quotient. -/
theorem calval_toNat (dom : calDefined i r = true) : (calval i r).toNat = rdiv kCal (i.toNat * r.toNat) := by
  obtain ⟨-, fits⟩ := calDefined_iff.1 dom
  rw [calval, BitVec.toNat_ofNat, Nat.mod_eq_of_lt (by omega)]

end

end Sys2Proof.Machine

namespace Sys2Proof.Proofs

open Sys2Proof.Machine

/-- Settles O45: the bound on the quotient is a bound on the product (rule R17), and below it no bit is lost. -/
theorem calibrationValueAndItsDomain : Obligations.CalibrationValueAndItsDomain := fun _ _ =>
  ⟨calDefined_iff_le, calDefined_iff, fun large => calval_toNat (calDefined_iff_le.2 large)⟩

/-- Settles O43: the logical shift is the quotient by 8. -/
theorem busVoltageCountDropsThreeBits : Obligations.BusVoltageCountDropsThreeBits := fun w =>
  ⟨(busmv_eq w).trans (mul_comm ..), busmv_bounds w⟩

end Sys2Proof.Proofs
end

section
/-! The monitor's getters that need no calibration (rules R170 to R175): one two-byte read whose outcome is not reported (rule
R200), and a count of its word. -/

namespace Sys2Proof.Machine

/-! ### The counts as response values (rule R11) -/

theorem u64_toInt {n : Int} (lower : -2 ^ 63 ≤ n) (upper : n < 2 ^ 63) : (u64 n).toInt = n := countOf_u64 lower upper

section
variable {w : U16}

theorem s16_of_lt (h : w.toNat < 0x8000) : s16 w = w.toNat := if_pos h

theorem s16_of_ge (h : 0x8000 ≤ w.toNat) : s16 w = (w.toNat : Int) - 0x10000 := if_neg (Nat.not_lt.2 h)

end

section
variable (w : U16)

/-- A signed word times a weight, by the sign of the word. -/
theorem u64_s16_mul_toInt {k : Nat} (hk : k ≤ 2 ^ 37) :
    (w.toNat < 0x8000 → (u64 (s16 w * (k : Int))).toInt = (w.toNat : Int) * k) ∧
      (0x8000 ≤ w.toNat → (u64 (s16 w * (k : Int))).toInt = ((w.toNat : Int) - 0x10000) * k) := by
  obtain ⟨lower, upper⟩ := s16_mul_bounds w hk
  rw [u64_toInt lower upper]
  exact ⟨fun low => by rw [s16_of_lt low], fun high => by rw [s16_of_ge high]⟩

theorem u64_s16_toInt :
    (w.toNat < 0x8000 → (u64 (s16 w)).toInt = w.toNat) ∧
      (0x8000 ≤ w.toNat → (u64 (s16 w)).toInt = (w.toNat : Int) - 0x10000) := by
  simpa using u64_s16_mul_toInt w (k := 1) (by decide)

theorem u64_busmv_toNat : (u64 (busmv w)).toNat = 4 * (w.toNat / 8) := by
  have := w.isLt
  rw [busmv_eq, mul_comm]
  exact u64_natCast_toNat (n := 4 * (w.toNat / 8)) (by omega)

/-- The count of `MGBUSV` for either value of the overflow bit (rule R174). -/
theorem u64_busVoltage_toInt (ovf : U16) :
    (w &&& ovf ≠ 0 → (u64 (busVoltage ovf w)).toInt = -100000) ∧
      (w &&& ovf = 0 → (u64 (busVoltage ovf w)).toInt = 4 * ((w.toNat / 8 : Nat) : Int)) := by
  refine ⟨fun overflow => ?_, fun clear => ?_⟩
  · rw [busVoltage, if_pos overflow]
    exact u64_toInt (by decide) (by decide)
  · obtain ⟨lower, upper⟩ := busmv_bounds w
    rw [busVoltage, if_neg (not_not_intro clear), u64_toInt (by omega) (by omega), busmv_eq, mul_comm]

end

/-! ### The commands -/

section
variable (s : State)

theorem exec_mgrbus : exec .mgrbus s = .next ((memRead .mon s.cfg.monBus 2 s).state.respond .none
    (u64 (busmv (memRead .mon s.cfg.monBus 2 s).word))) := rfl

theorem exec_mgbusv : exec .mgbusv s = .next ((memRead .mon s.cfg.monBus 2 s).state.respond .none
    (u64 (busVoltage s.cfg.monBusOvf (memRead .mon s.cfg.monBus 2 s).word))) := rfl

theorem exec_mgshv : exec .mgshv s = .next ((memRead .mon s.cfg.monShunt 2 s).state.respond .none
    (u64 (s16 (memRead .mon s.cfg.monShunt 2 s).word * 10))) := rfl

end

/-- The raw reads answer the signed word of their registers (rules R171 to R173). -/
theorem exec_raw_read {s : State} {i : Instr} {reg : U8}
    (h : i = .mgrshv ∧ reg = s.cfg.monShunt ∨ i = .mgrcur ∧ reg = s.cfg.monCurrent ∨ i = .mgrpwr ∧ reg = s.cfg.monPower) :
    exec i s = .next ((memRead .mon reg 2 s).state.respond .none (u64 (s16 (memRead .mon reg 2 s).word))) := by
  obtain ⟨rfl, rfl⟩ | ⟨rfl, rfl⟩ | ⟨rfl, rfl⟩ := h <;> rfl

end Sys2Proof.Machine

namespace Sys2Proof.Proofs

open Sys2Proof.Machine

/-- Settles O46: the count `busmv` of the word of `MON_REG_BUS`, whatever its bits (rule R170). -/
theorem mgrbusScalesTheBusRegister : Obligations.MgrbusScalesTheBusRegister := by
  refine ⟨rowReadsAs_of_row (op := 0x40) rfl, fun s => ?_⟩
  obtain ⟨t, tr, w, run, read, made, word, received, responded, frame⟩ :=
    answers_from_word (fun w => u64 (busmv w)) (exec_mgrbus s)
  exact ⟨t, tr, w, _, run, read, made, word, received, responded, u64_busmv_toNat w, frame⟩

/-- Settles O47: the three commands differ in the register alone (rules R171 to R173). -/
theorem rawReadsAreSigned : Obligations.RawReadsAreSigned := by
  refine ⟨rowReadsAs_of_row (op := 0x41) rfl, rowReadsAs_of_row (op := 0x42) rfl, rowReadsAs_of_row (op := 0x43) rfl,
    fun s i reg rawRead => ?_⟩
  obtain ⟨t, tr, w, run, read, made, word, received, responded, frame⟩ :=
    answers_from_word (fun w => u64 (s16 w)) (exec_raw_read rawRead)
  obtain ⟨positive, negative⟩ := u64_s16_toInt w
  exact ⟨t, tr, w, _, run, read, made, word, received, responded, positive, negative, frame⟩

/-- Settles O48: by the overflow bit of the word, the one condition of `busVoltage` (rule R174). -/
theorem mgbusvTestsTheOverflowBitOnly : Obligations.MgbusvTestsTheOverflowBitOnly := by
  refine ⟨rowReadsAs_of_row (op := 0x44) rfl, fun s => ?_⟩
  obtain ⟨t, tr, w, run, read, made, word, received, responded, frame⟩ :=
    answers_from_word (fun w => u64 (busVoltage s.cfg.monBusOvf w)) (exec_mgbusv s)
  obtain ⟨overflow, clear⟩ := u64_busVoltage_toInt w s.cfg.monBusOvf
  exact ⟨t, tr, w, _, run, read, made, word, received, responded, overflow, clear, frame⟩

/-- Settles O49: the signed word of `MON_REG_SHUNT` with the weight 10 (rule R175). -/
theorem mgshvScalesTheShuntRegister : Obligations.MgshvScalesTheShuntRegister := by
  refine ⟨rowReadsAs_of_row (op := 0x45) rfl, fun s => ?_⟩
  obtain ⟨t, tr, w, run, read, made, word, received, responded, frame⟩ :=
    answers_from_word (fun w => u64 (s16 w * 10)) (exec_mgshv s)
  obtain ⟨positive, negative⟩ := u64_s16_mul_toInt w (k := 10) (by decide)
  exact ⟨t, tr, w, _, run, read, made, word, received, responded, fun low => (positive low).trans (mul_comm ..),
    fun high => (negative high).trans (mul_comm ..), frame⟩

end Sys2Proof.Proofs
end

section
/-! The calibrated getters (rules R168, R179 and R180): the calibration register is written, and then one register read,
whatever the outcome of the write. -/

namespace Sys2Proof.Machine

/-! ### A read after another transaction -/

section
variable {s t u : State} {h : Handle} {tr tr₁ : Transaction} {m k : Nat} {addr : U8} {w : U16}

/-- A read after one transaction is the read that takes the answer after it. -/
theorem IsRead2.after (r : IsRead2 t h addr k tr) (made : Transacted s t [tr₁] m) (f : KeepsFixed s t) :
    IsRead2 s h addr (k + 1) tr := by
  obtain ⟨req, taken, lost⟩ := r
  rw [f.handle] at req
  rw [made.succeeds f, made.answerAt] at taken
  rw [made.succeeds f] at lost
  exact ⟨req, taken, lost⟩

theorem Word0.after (hw : Word0 t h k w) (made : Transacted s t [tr₁] m) (f : KeepsFixed s t) : Word0 s h (k + 1) w := by
  rw [Word0, made.succeeds f, made.answerAt] at hw
  exact hw

theorem Received2.after (r : Received2 t u h k) (made : Transacted s t [tr₁] m) (f : KeepsFixed s t) :
    Received2 s u h (k + 1) := by
  rw [Received2, made.succeeds f, made.answerAt] at r
  exact r

end

/-! ### The stored calibration -/

section
variable {s : State}

theorem calibrationProblem_of_not_valid (h : s.calv = false) : s.calibrationProblem = some .calibrationNotValid := if_pos h

theorem calibrationProblem_of_outside (valid : s.calv = true) (outside : calDefined s.imaxUa s.rshUohm = false) :
    s.calibrationProblem = some .calibrationOutsideDomain := by
  simp [State.calibrationProblem, valid, outside]

theorem calibrationProblem_eq_none (valid : s.calv = true) (dom : calDefined s.imaxUa s.rshUohm = true) :
    s.calibrationProblem = none := by
  simp [State.calibrationProblem, valid, dom]

/-! ### The commands -/

/-- `MGCUR` and `MGPWR` are refused for the reason the stored calibration cannot be used (U6, U7). -/
theorem exec_refused_of_calibrationProblem {e : Refusal} (h : s.calibrationProblem = some e) :
    exec .mgcur s = .refused e ∧ exec .mgpwr s = .refused e := by
  simp only [exec, execMgcur, execMgpwr, h, and_self]

theorem exec_mgcur (h : s.calibrationProblem = none) :
    exec .mgcur s = .next ((memRead .mon s.cfg.monCurrent 2 (recal s)).state.respond .none
      (u64 (s16 (memRead .mon s.cfg.monCurrent 2 (recal s)).word * (s.imaxUa.toNat : Int)))) := by
  simp only [exec, execMgcur, h]
  rfl

theorem exec_mgpwr (h : s.calibrationProblem = none) :
    exec .mgpwr s = .next ((memRead .mon s.cfg.monPower 2 (recal s)).state.respond .none
      (u64 (s16 (memRead .mon s.cfg.monPower 2 (recal s)).word * (s.pwrLsb.toNat : Int)))) := by
  simp only [exec, execMgpwr, h]
  rfl

/-- What a command does that re-calibrates, makes one two-byte read and answers with a function of its word. -/
theorem answers_from_word_after_recal {i : Instr} {addr : U8} (f : U16 → U64)
    (dom : calDefined s.imaxUa s.rshUohm = true)
    (run : exec i s = .next ((memRead .mon addr 2 (recal s)).state.respond .none
      (f (memRead .mon addr 2 (recal s)).word))) :
    ∃ t tr₁ tr₂ w, exec i s = .next t ∧ t.calreg.toNat = rdiv kCal (s.imaxUa.toNat * s.rshUohm.toNat) ∧
      IsWrite s .mon s.cfg.monCalib [hiByte t.calreg, loByte t.calreg] 0 tr₁ ∧ IsRead2 s .mon addr 1 tr₂ ∧
      Transacted s t [tr₁, tr₂] (Elapsed s .mon 1) ∧ Word0 s .mon 1 w ∧ SentWord t t.calreg ∧ Received2 s t .mon 1 ∧
      Responded t .none (f w) ∧ KeepsFixed s t ∧ KeepsCalInputs s t := by
  obtain ⟨fixed, inputs, -, hreg, sent, tr₁, write, made⟩ := recal_frame s
  obtain ⟨fixed', cal', tx', read⟩ := memRead_frame (recal s) .mon addr 2
  rw [made.elapsed fixed] at read
  have reg : (memRead .mon addr 2 (recal s)).state.calreg = calval s.imaxUa s.rshUohm := cal'.calreg.trans hreg
  refine ⟨_, tr₁, _, _, run, ?_, ?_, (isRead2_xact (recal s) .mon addr).after made fixed, (made.append read).respond ..,
    (memRead_word (recal s) .mon addr 2).after made fixed, ?_,
    ((memRead2_received (recal s) .mon addr).after made fixed).respond _ _, respond_responded ..,
    (fixed.trans fixed').respond .., (inputs.trans cal'.toKeepsCalInputs).respond ..⟩
  all_goals rw [State.respond_calreg, reg]
  · exact calval_toNat dom
  · exact write
  · exact ⟨tx'.txb0.trans sent.txb0, tx'.txb1.trans sent.txb1⟩

end

/-- The count of `MGPWR` (rules R39 and R180), by the sign of the word. -/
theorem u64_power_toInt (s : State) (w : U16) :
    (w.toNat < 0x8000 → (u64 (s16 w * (s.pwrLsb.toNat : Int))).toInt = (w.toNat : Int) * 20 * (s.imaxUa.toNat : Int)) ∧
      (0x8000 ≤ w.toNat →
        (u64 (s16 w * (s.pwrLsb.toNat : Int))).toInt = ((w.toNat : Int) - 0x10000) * 20 * (s.imaxUa.toNat : Int)) := by
  have scaled := u64_s16_mul_toInt w s.pwrLsb.isLt.le
  have weight : (s.pwrLsb.toNat : Int) = 20 * (s.imaxUa.toNat : Int) := by
    rw [State.pwrLsb_toNat, Nat.cast_mul, Nat.cast_ofNat]
  rw [weight] at scaled ⊢
  simpa only [mul_assoc] using scaled

end Sys2Proof.Machine

namespace Sys2Proof.Proofs

open Sys2Proof.Machine

/-- Settles O50: `recal`, and the signed word of `MON_REG_CURRENT` with the weight `IMAX_UA` (rule R179). -/
theorem mgcurRecalibratesThenScales : Obligations.MgcurRecalibratesThenScales := by
  refine ⟨rowReadsAs_of_row (op := 0x46) rfl, fun s valid large => ?_⟩
  have dom := calDefined_iff_le.2 large
  obtain ⟨t, tr₁, tr₂, w, run, reg, write, read, made, word, sent, received, responded, frame⟩ :=
    answers_from_word_after_recal (fun w => u64 (s16 w * (s.imaxUa.toNat : Int))) dom
      (exec_mgcur (calibrationProblem_eq_none valid dom))
  obtain ⟨positive, negative⟩ := u64_s16_mul_toInt w (s.imaxUa.isLt.le.trans (by decide))
  exact ⟨t, tr₁, tr₂, w, _, run, reg, write, read, made, word, sent, received, responded, positive, negative, frame⟩

/-- Settles O51: `recal`, and the signed word of `MON_REG_POWER` with the weight `PWR_LSB` (rule R180). -/
theorem mgpwrRecalibratesThenScales : Obligations.MgpwrRecalibratesThenScales := by
  refine ⟨rowReadsAs_of_row (op := 0x47) rfl, fun s valid large => ?_⟩
  have dom := calDefined_iff_le.2 large
  obtain ⟨t, tr₁, tr₂, w, run, reg, write, read, made, word, sent, received, responded, frame⟩ :=
    answers_from_word_after_recal (fun w => u64 (s16 w * (s.pwrLsb.toNat : Int))) dom
      (exec_mgpwr (calibrationProblem_eq_none valid dom))
  obtain ⟨positive, negative⟩ := u64_power_toInt s w
  exact ⟨t, tr₁, tr₂, w, _, run, reg, write, read, made, word, sent, received, responded, positive, negative, frame⟩

end Sys2Proof.Proofs
end

section
/-! The monitor's writers (rules R181 and R182), and the refusals of the three calibrated commands (U6 and U7 of
`93_implementation_defined.md`). -/

namespace Sys2Proof.Machine

/-! ### Storing a calibration -/

section
variable {s t u : State}

theorem KeepsRx.trans (h : KeepsRx s t) (k : KeepsRx t u) : KeepsRx s u := ⟨k.rxb0.trans h.rxb0, k.rxb1.trans h.rxb1⟩

/-- What is transacted after an operation without transactions is transacted over both. -/
theorem NoTransaction.then_transacted {l : List Transaction} {n : Nat} (still : NoTransaction s t)
    (made : Transacted t u l n) : Transacted s u l n :=
  ⟨by rw [made.bus, still.bus], made.tst, made.tcnt, by rw [made.script, still.script],
    by rw [made.drawn, still.drawn, still.script]⟩

end

section
variable (s : State) (i r : U32)

theorem setCalibration_frame :
    KeepsFixed s (s.setCalibration i r) ∧ KeepsRx s (s.setCalibration i r) ∧ NoTransaction s (s.setCalibration i r) :=
  ⟨⟨rfl, rfl, rfl, rfl, rfl, rfl, rfl, rfl⟩, ⟨rfl, rfl⟩, ⟨rfl, rfl, rfl, rfl, rfl⟩⟩

/-- Everything the state after storing and sending a calibration holds (rule R181). -/
theorem calibrate_frame :
    KeepsFixed s (recal (s.setCalibration i r)) ∧ KeepsRx s (recal (s.setCalibration i r)) ∧
      KeepsCalInputs (s.setCalibration i r) (recal (s.setCalibration i r)) ∧
      (recal (s.setCalibration i r)).calreg = calval i r ∧ SentWord (recal (s.setCalibration i r)) (calval i r) ∧
      ∃ tr, IsWrite s .mon s.cfg.monCalib [hiByte (calval i r), loByte (calval i r)] 0 tr ∧
        Transacted s (recal (s.setCalibration i r)) [tr] (Elapsed s .mon 0) := by
  obtain ⟨fixed, rx, still⟩ := setCalibration_frame s i r
  obtain ⟨fixed', inputs, rx', reg, sent, tr, write, made⟩ := recal_frame (s.setCalibration i r)
  exact ⟨fixed.trans fixed', rx.trans rx', inputs, reg, sent, tr, write, still.then_transacted made⟩

/-! ### The commands -/

theorem exec_mcal (dom : calDefined i r = true) :
    exec (.mcal i r) s = .next ((recal (s.setCalibration i r)).respond .none 0) := if_pos dom

theorem exec_mcal_refused (outside : calDefined i r = false) :
    exec (.mcal i r) s = .refused .calibrationOutsideDomain := if_neg (Bool.eq_false_iff.1 outside)

theorem exec_mrst : exec .mrst s = .next ((memWrite2 .mon s.cfg.monConfig s.cfg.monCfgRst s).state.respondBus
    (memWrite2 .mon s.cfg.monConfig s.cfg.monCfgRst s).ok 0) := rfl

end

end Sys2Proof.Machine

namespace Sys2Proof.Proofs

open Sys2Proof.Machine

/-- Settles O52: the inputs are stored before `recal`, which keeps them and does not report its write (rule R181). -/
theorem mcalStoresAndSendsTheCalibration : Obligations.McalStoresAndSendsTheCalibration := by
  refine ⟨rowReadsAs_of_row (op := 0x48) rfl, fun s i r large => ?_⟩
  have dom := calDefined_iff_le.2 large
  obtain ⟨fixed, rx, ⟨valid, imaxUa, rshUohm⟩, reg, sent, tr, write, made⟩ := calibrate_frame s i r
  refine ⟨_, tr, exec_mcal s i r dom, imaxUa, rshUohm, valid, ?_, ?_, made.respond .., ?_, respond_responded ..,
    congrArg BitVec.toNat imaxUa, ?_, fixed.respond .., rx.respond ..⟩
  · rw [State.respond_calreg, reg]
    exact calval_toNat dom
  · rw [State.respond_calreg, reg]
    exact write
  · rw [State.respond_calreg, reg]
    exact sent.respond ..
  · rw [State.pwrLsb_toNat, State.respond_imaxUa, imaxUa]
    rfl

/-- Settles O53: one `MemWrite` of two bytes at `MON_REG_CONFIG`, reported (rule R182). -/
theorem mrstWritesTheResetBit : Obligations.MrstWritesTheResetBit := by
  refine ⟨rowReadsAs_of_row (op := 0x49) rfl, fun s => ?_⟩
  obtain ⟨fixed, cal, rx, sent, made⟩ := memWrite2_frame s .mon s.cfg.monConfig s.cfg.monCfgRst
  have ok := memWrite2_ok s .mon s.cfg.monConfig s.cfg.monCfgRst
  exact ⟨_, _, exec_mrst s, isWrite_xact s .mon s.cfg.monConfig _, made.respond .., sent.respond ..,
    fun hs => respondBus_of_ok _ (ok.2 hs) _, fun hs => respondBus_of_fail _ (mt ok.1 hs) _,
    fixed.respond .., cal.respond .., rx.respond ..⟩

/-- Settles O54: `CALV` first, then the domain of `calval`. -/
theorem calibrationOutsideTheSpecIsRefused : Obligations.CalibrationOutsideTheSpecIsRefused :=
  ⟨fun _ notValid => exec_refused_of_calibrationProblem (calibrationProblem_of_not_valid notValid),
    fun s i r small => exec_mcal_refused s i r (calDefined_eq_false_iff.2 small),
    fun _ valid small =>
      exec_refused_of_calibrationProblem (calibrationProblem_of_outside valid (calDefined_eq_false_iff.2 small))⟩

end Sys2Proof.Proofs
end

section
/-! Failures (`60_exceptions.md`). An illegal command only answers (rules R195 and R198). -/

namespace Sys2Proof

/-- The eight highest bits of a legal command word are reserved in every format (rules R77 and R81). -/
theorem Format.reservedZero_top {fmt : Format} {cw : U32} (h : fmt.reservedZero cw = true) : cw.extractLsb' 24 8 = 0 := by
  simp only [reservedZero, Bool.and_eq_true, beq_iff_eq] at h
  obtain ⟨⟨⟨⟨-, top⟩, -⟩, -⟩, -⟩ := h
  exact top

/-- A command with bit 31 of `cw` set is illegal, whatever its opcode. -/
theorem not_wf_of_top_bit {c : Command} (set : c.cw.getLsbD 31 = true) : ¬ c.wf = true := by
  intro wf
  obtain ⟨r, -, cw, -⟩ := Command.wf_iff.1 wf
  have clear : c.cw.getLsbD 31 = false := by simpa using congrArg (·.getLsbD 7) (Format.reservedZero_top cw)
  exact Bool.false_ne_true (clear.symm.trans set)

end Sys2Proof

namespace Sys2Proof.Proofs

open Sys2Proof.Machine

/-- Settles O6: what is not legal is answered, and bit 31 of `cw` makes any command illegal. -/
theorem illegalCommandOnlyAnswersIllegal : Obligations.IllegalCommandOnlyAnswersIllegal := by
  refine ⟨fun c illegal => answeredIllegal_of_not_wf (Bool.eq_false_iff.1 illegal), fun i => ?_⟩
  have set : ((encode i).cw ||| 0x80000000).getLsbD 31 = true := by simp
  exact answeredIllegal_of_not_wf (not_wf_of_top_bit set)

end Sys2Proof.Proofs
end

section
/-! Every command ends in one response, or its calibration is outside the spec (rules R76 and R195, U6 and U7 of
`93_implementation_defined.md`). -/

namespace Sys2Proof.Machine

variable {s t u : State} {c : Command}

/-! ### What a command never writes -/

theorem BusProgram.run_keepsFixed {n : Nat} (p : BusProgram n) (s : State) : KeepsFixed s (p.run s) := by
  induction p generalizing s with
  | respond e v =>
    obtain ⟨fixed, -⟩ := respond_frame s e v
    exact fixed
  | read h addr len k hlen ih =>
    obtain ⟨fixed, -⟩ := memRead_frame s h addr len
    exact fixed.trans (ih ..)
  | write1 h addr b k ih =>
    obtain ⟨fixed, -⟩ := memWrite1_frame s h addr b
    exact fixed.trans (ih ..)
  | write2 h addr w k ih =>
    obtain ⟨fixed, -⟩ := memWrite2_frame s h addr w
    exact fixed.trans (ih ..)
  | ready h k ih =>
    obtain ⟨fixed, -⟩ := busReady_frame s h
    exact fixed.trans (ih ..)

theorem Plan.run_keepsFixed {p : Plan} (h : p.run s = .next t) : KeepsFixed s t := by
  cases p with
  | bus p =>
    cases h
    exact p.run_keepsFixed s
  | onRecal p =>
    rw [Plan.run_onRecal_eq_next h]
    obtain ⟨fixed, -⟩ := recal_frame s
    exact fixed.trans (p.run_keepsFixed _)
  | calibrate i r =>
    rw [(Plan.run_calibrate_eq_next h).2]
    obtain ⟨fixed, -⟩ := calibrate_frame s i r
    exact fixed.respond ..

/-! ### Refusals -/

theorem calibrationProblem_eq_none_iff :
    s.calibrationProblem = none ↔ ¬ (s.calv = false ∨ calDefined s.imaxUa s.rshUohm = false) := by
  cases valid : s.calv
  · simp [calibrationProblem_of_not_valid valid]
  cases dom : calDefined s.imaxUa s.rshUohm
  · simp [calibrationProblem_of_outside valid dom]
  · simp [calibrationProblem_eq_none valid dom]

/-- `MGCUR` and `MGPWR` are refused exactly for a stored calibration that cannot be used (U6, U7). -/
theorem Plan.run_onRecal_refused_iff (p : BusProgram 1) :
    (∃ r, (Plan.onRecal p).run s = .refused r) ↔ s.calv = false ∨ calDefined s.imaxUa s.rshUohm = false := by
  rw [← not_iff_not, ← calibrationProblem_eq_none_iff, Plan.run]
  cases s.calibrationProblem <;> simp

/-- `MCAL` is refused exactly for operands outside the domain (U7). -/
theorem Plan.run_calibrate_refused_iff (i r : U32) :
    (∃ e, (Plan.calibrate i r).run s = .refused e) ↔ calDefined i r = false := by
  rw [Plan.run]
  cases calDefined i r <;> simp

/-- No command but the three calibrated ones is ever refused. -/
theorem exec_refused_iff (i : Instr) (s : State) : (∃ r, exec i s = .refused r) ↔ OutsideCalibration i s := by
  rw [exec_eq_run_plan]
  cases i with
  | mgcur | mgpwr => exact Plan.run_onRecal_refused_iff _
  | mcal i r => exact Plan.run_calibrate_refused_iff i r
  | _ => exact ⟨nofun, False.elim⟩

/-- Acceptance leaves the calibration a command uses. -/
theorem outsideCalibration_accept (i : Instr) (s : State) (c : Command) :
    OutsideCalibration i (s.popHost.accept c) ↔ OutsideCalibration i s := by
  cases i <;> exact Iff.rfl

/-! ### The step -/

theorem presents_of_nextCommand (h : s.nextCommand = some c) : Presents s c := by
  cases busy : s.busy
  · exact ⟨busy, by simpa [State.nextCommand, busy] using h⟩
  · simp [State.nextCommand, busy] at h

/-- A presented command is refused exactly when its calibration is outside the spec. -/
theorem step_refused_iff (h : Presents s c) :
    (∃ r, step s = .refused r) ↔ ∃ i, decode c = .ok i ∧ OutsideCalibration i s := by
  cases hd : decode c with
  | ok i => simp [step_of_decode h.nextCommand hd, exec_refused_iff, outsideCalibration_accept]
  | error e => simp [step_eq_run h.nextCommand, commandPlan, hd, Plan.run]

theorem Accepted.trans_keepsFixed (h : Accepted s t c) (k : KeepsFixed t u) : Accepted s u c :=
  ⟨k.cw.trans h.cw, k.opa.trans h.opa, k.opb.trans h.opb, k.host.trans h.host⟩

/-- A step that takes a command and answers a next state has accepted the command and answered it once (rule R76). -/
theorem step_answers (h : Presents s c) (run : step s = .next t) : ∃ e v, Responded t e v ∧ Accepted s t c := by
  rw [step_eq_run h.nextCommand] at run
  obtain ⟨e, v, responded⟩ := Plan.run_responded run
  exact ⟨e, v, responded, (accept_accepted s c).trans_keepsFixed (Plan.run_keepsFixed run)⟩

end Sys2Proof.Machine

namespace Sys2Proof.Proofs

open Sys2Proof.Machine

/-- Settles O11: there is no fault to raise (rule R195), only a presented command is refused, and what is not refused is
answered. -/
theorem everyPresentedCommandEndsInOneResponse : Obligations.EveryPresentedCommandEndsInOneResponse := by
  refine ⟨fun _ => nofun, fun s => ⟨fun refused => ?_, ?_⟩, fun s c presented inside => ?_⟩
  · cases hc : s.nextCommand with
    | none => simp [step_of_no_command hc] at refused
    | some c =>
      have presented := presents_of_nextCommand hc
      obtain ⟨i, hi, outside⟩ := (step_refused_iff presented).1 refused
      exact ⟨c, i, presented, hi, outside⟩
  · rintro ⟨c, i, presented, hi, outside⟩
    exact (step_refused_iff presented).2 ⟨i, hi, outside⟩
  · cases run : step s with
    | next t =>
      obtain ⟨e, v, answered⟩ := step_answers presented run
      exact ⟨t, e, v, rfl, answered⟩
    | fault f => exact nomatch f
    | refused r => exact absurd ((step_refused_iff presented).1 ⟨r, run⟩) inside

end Sys2Proof.Proofs
end

section
/-! The getters (rule R200): the outcome of the read is not examined, so each ends in a response without an error. -/

namespace Sys2Proof.Machine

/-- A getter's last operation is a response without an error, whatever its read returned. -/
theorem exec_getter {i : Instr} {s : State} (getter : IsGetter i) (inside : ¬ OutsideCalibration i s) :
    ∃ (u : State) (v : U64), exec i s = .next (u.respond .none v) := by
  cases i with
  | fgetb h addr mask => exact ⟨_, _, exec_fgetb s h addr mask⟩
  | fgetw h addr mask => exact ⟨_, _, exec_fgetw s h addr mask⟩
  | egraw => exact ⟨_, _, exec_egraw s⟩
  | egang => exact ⟨_, _, exec_egang s⟩
  | egreal unit => exact ⟨_, _, exec_egreal s unit⟩
  | emdet => exact ⟨_, _, exec_magnet_query (.inl ⟨rfl, rfl⟩)⟩
  | emstr => exact ⟨_, _, exec_magnet_query (.inr (.inl ⟨rfl, rfl⟩))⟩
  | emweak => exact ⟨_, _, exec_magnet_query (.inr (.inr ⟨rfl, rfl⟩))⟩
  | mgrbus => exact ⟨_, _, exec_mgrbus s⟩
  | mgrshv => exact ⟨_, _, exec_raw_read (.inl ⟨rfl, rfl⟩)⟩
  | mgrcur => exact ⟨_, _, exec_raw_read (.inr (.inl ⟨rfl, rfl⟩))⟩
  | mgrpwr => exact ⟨_, _, exec_raw_read (.inr (.inr ⟨rfl, rfl⟩))⟩
  | mgbusv => exact ⟨_, _, exec_mgbusv s⟩
  | mgshv => exact ⟨_, _, exec_mgshv s⟩
  | mgcur => exact ⟨_, _, exec_mgcur (calibrationProblem_eq_none_iff.2 inside)⟩
  | mgpwr => exact ⟨_, _, exec_mgpwr (calibrationProblem_eq_none_iff.2 inside)⟩
  | _ => exact getter.elim

end Sys2Proof.Machine

namespace Sys2Proof.Proofs

open Sys2Proof.Machine

/-- Settles O56: the two calibrated getters, too, read once their calibration can be used. -/
theorem gettersNeverReportABusFailure : Obligations.GettersNeverReportABusFailure := by
  intro i s getter inside
  obtain ⟨u, v, run⟩ := exec_getter getter inside
  exact ⟨_, v, run, respond_responded ..⟩

end Sys2Proof.Proofs
end

section
/-! Reset (rules R220 and R221): what it loads, that the loaded state meets the invariant, and that no step changes a handle
register or `DIR` afterwards. -/

namespace Sys2Proof.Machine

/-! ### The handle registers -/

theorem append_zero_eq_shiftLeft {w : Nat} (v : BitVec w) (n : Nat) : v ++ 0#n = v.setWidth (w + n) <<< n := by
  rw [BitVec.append_def, BitVec.shiftLeftZeroExtend_eq]
  simp

/-- The model appends the R/W bit to the seven-bit address, and rule R220 shifts the address past it. -/
theorem HandleRegs.load_eq_shiftLeft (bus : BusRef) (addr7 : BitVec 7) (tmo : U32) :
    HandleRegs.load bus addr7 tmo = ⟨bus, addr7.setWidth 8 <<< 1, tmo⟩ := by
  rw [HandleRegs.load, append_zero_eq_shiftLeft]

/-! ### The invariant at reset -/

section
variable (p : Params)

theorem resetWith_quiet : Quiet (State.resetWith p) :=
  ⟨State.resetWith_busy p, State.resetWith_tst p, State.resetWith_seq p⟩

theorem resetWith_handlesLoaded : HandlesLoaded (State.resetWith p) :=
  ⟨State.resetWith_encReg p, State.resetWith_monReg p, State.resetWith_dir p⟩

theorem calibrationSound_of_not_valid {s : State} (h : s.calv = false) : CalibrationSound s :=
  fun valid => absurd (h.symm.trans valid) Bool.false_ne_true

/-- No calibration is valid at reset, so there is none to be sound (rule R37). -/
theorem resetWith_machineInv : MachineInv (State.resetWith p) :=
  ⟨resetWith_quiet p, resetWith_handlesLoaded p, calibrationSound_of_not_valid (State.resetWith_calv p)⟩

end

end Sys2Proof.Machine

namespace Sys2Proof.Proofs

open Sys2Proof.Machine

/-- Settles O8: `HDEV` by the shift, the control state as reset sets it, and the frame of a step. -/
theorem resetLoadsTheParametersForGood : Obligations.ResetLoadsTheParametersForGood := by
  refine ⟨fun p => ?_, rfl, fun s t run => ?_⟩
  · have enc := HandleRegs.load_eq_shiftLeft p.busEnc p.addr7Enc p.timeoutEnc
    have mon := HandleRegs.load_eq_shiftLeft p.busMon p.addr7Mon p.timeoutMon
    obtain ⟨busy, tst, seq⟩ := resetWith_quiet p
    exact ⟨enc, mon, State.resetWith_dir p, busy, State.resetWith_calv p, tst, State.resetWith_tcnt p, seq,
      State.resetWith_bus p⟩
  · have kept := step_ran run
    exact ⟨kept.encReg, kept.monReg, kept.dir⟩

/-- Settles O9: the chip's parameters are one choice among all. -/
theorem resetMeetsTheMachineInvariant : Obligations.ResetMeetsTheMachineInvariant :=
  ⟨resetWith_machineInv, resetWith_machineInv Config.chip⟩

end Sys2Proof.Proofs
end
